-- ==== Sys2Proof/Word.lean ====
section
/-!
DEFINITION. The word types of the RL78 (00_scope.md section 5.2, the paragraph "Widths").
-/

namespace Sys2Proof

/-- A byte: an 8-bit general register, an SFR byte, a byte of memory. -/
abbrev Byte := BitVec 8

/-- A word: a register pair, SP, a 16-bit datum or immediate. -/
abbrev Word := BitVec 16

/-- A double word: MACR, the products and quotients of the S3 extension instructions. -/
abbrev DWord := BitVec 32

/-- A 20-bit program or data address (20_memory.md R50). -/
abbrev Addr := BitVec 20

end Sys2Proof
end

