-- ==== Sys2Proof/Config.lean ====
section
/-!
DEFINITION. What the product fixes (00_scope.md R6), and the values the spec leaves free.
The parameters are plain data, carried in the state and changed by no step. The free values are opaque: no proof can
know one (log 6).
-/

namespace Sys2Proof

/-- `CORE` of 00_scope.md R6: which of the three CPU cores is modelled (D1). -/
inductive CpuCore where
  | s1 | s2 | s3
  deriving DecidableEq, Repr

/-- The implementation parameters of 00_scope.md R6 that are plain data (D1, D2). -/
structure Config where
  /-- `CORE` -/
  core : CpuCore
  /-- `FLASH_TOP`, the highest implemented code-flash address -/
  flashTop : Nat
  /-- `RAM_BASE`, the lowest internal RAM address -/
  ramBase : Nat
  /-- `DFLASH_LO`, `DFLASH_HI`, both inclusive; none where the product has no data flash -/
  dflash : Option (Nat × Nat)
  /-- `MIRROR`, as a list of inclusive address ranges inside the mirror window -/
  mirror : List (Nat × Nat)
  deriving DecidableEq, Repr

namespace Config

/-- The constraints the spec puts on the parameters: flash holds the fixed areas and stays in the program memory space
(20_memory.md R54, R56); RAM starts above the 2nd SFR area and below the register area (R54, R63); data flash lies
between 2nd SFR and RAM (R54, R66); the mirror lies in its window and outside 2nd SFR, RAM, data flash and SFR (R62).
Boundaries are even, so no aligned word straddles two areas. -/
def wf (c : Config) : Bool :=
  decide (0xCD ≤ c.flashTop) && decide (c.flashTop ≤ 0xEFFFF) && c.flashTop % 2 == 1
  && decide (0xF0800 ≤ c.ramBase) && decide (c.ramBase ≤ 0xFFEE0) && c.ramBase % 2 == 0
  && (match c.dflash with
      | none => true
      | some (lo, hi) => decide (0xF0800 ≤ lo) && decide (lo ≤ hi) && decide (hi < c.ramBase)
          && lo % 2 == 0 && hi % 2 == 1)
  && c.mirror.all fun (lo, hi) =>
      decide (0xF0800 ≤ lo) && decide (lo ≤ hi) && decide (hi < c.ramBase) && lo % 2 == 0 && hi % 2 == 1
      && (match c.core with
          | .s1 => decide (0xF8000 ≤ lo) && decide (hi ≤ 0xFDEFF)
          | _ => true)
      && (match c.dflash with
          | none => true
          | some (dlo, dhi) => decide (hi < dlo) || decide (dhi < lo))

/-- The configuration of the state after reset: configuration T of 95_test_vectors.md (an RL78-S3 with RAM from
FEF00H, no data flash, mirror F2000H-FEEFFH), with 128 KB of flash.
DESIGN CHOICE (log 5), unsafe: the parameters are the product's; a statement must hold for every configuration. -/
def initial : Config where
  core := .s3
  flashTop := 0x1FFFF
  ramBase := 0xFEF00
  dflash := none
  mirror := [(0xF2000, 0xFEEFF)]

end Config

/-- What a free value stands for, so that two open values of one step are independent of each other. -/
inductive FreeUse where
  /-- AC after ADDW, SUBW, CMPW (43_alu16.md R250) -/
  | auxCarry
  /-- a stack read outside internal RAM (10_state.md R29), by address -/
  | stackByte (a : Nat)
  /-- a mirror read right after a PMC write (70_reset_and_hazards.md R452), by address -/
  | mirrorByte (a : Nat)
  /-- a register byte of AX, BC, DE, HL after an interrupted unprotected division (44_muldiv.md R268) -/
  | divByte (i : Nat)
  /-- whether fetch comes to see the stores made so far to a byte (20_memory.md R75), by address -/
  | staleFetch (a : Nat)
  /-- a general register byte after a reset signal (70_reset_and_hazards.md R440), by number 8*bank + register -/
  | resetReg (i : Nat)
  /-- a byte of SP after a reset signal (10_state.md R38) -/
  | resetSp (i : Nat)
  /-- a byte of MACR after a reset signal (10_state.md R38) -/
  | resetMacr (i : Nat)
  deriving DecidableEq, Repr

/-- One event of the history that `Sfr` and `Irq` see (60_exceptions.md R403; D5, D6). -/
inductive DevEvent where
  /-- an 8-bit read of a product SFR -/
  | read8 (a : Nat)
  /-- a 16-bit read of a product SFR -/
  | read16 (a : Nat)
  /-- an 8-bit write of a product SFR -/
  | write8 (a : Nat) (v : Byte)
  /-- a 16-bit write of a product SFR -/
  | write16 (a : Nat) (v : Word)
  /-- an executed RETI, `end_of_service` (60_exceptions.md R410) -/
  | endOfService
  /-- a reset signal (70_reset_and_hazards.md R440) -/
  | resetSignal
  deriving DecidableEq, Repr

/-- An interrupt request as `Irq` presents it (60_exceptions.md R403). -/
structure IrqRequest where
  /-- the address of the vector table entry -/
  vector : Nat
  /-- gated by IE -/
  maskable : Bool
  /-- the value ISP1:ISP0 takes at acceptance (R405) -/
  newIsp : BitVec 2
  deriving DecidableEq, Repr

/-- What `Irq` is consulted with at a step boundary (60_exceptions.md R403; D6): the current IE and ISP, the history of
SFR accesses and RETI events, so that a store to a mask register bears on the answer (R421), and the moment, since a
device may raise its request at any time (R404). -/
structure IrqView where
  /-- the number of the step (log 20) -/
  time : Nat
  /-- IE -/
  ie : Bool
  /-- 2*ISP1 + ISP0 -/
  isp : BitVec 2
  /-- the history of SFR accesses, RETI events and reset signals -/
  history : List DevEvent
  deriving DecidableEq, Repr

/-- What the world outside the CPU answers at a step boundary (60_exceptions.md R403, R413, R420). -/
structure EnvInput where
  /-- the reset signal -/
  reset : Bool
  /-- the end of HALT or STOP mode -/
  release : Bool
  /-- the request `Irq` presents, if any -/
  request : Option IrqRequest
  deriving DecidableEq, Repr

/-- `Irq`, the request it answers with (60_exceptions.md R403; D6). No body. -/
opaque Config.irqRequest : IrqView → Option IrqRequest

/-- `Irq.release`, the end of standby (60_exceptions.md R420; D16). No body. -/
opaque Config.irqRelease : IrqView → Bool

/-- The reset signal (60_exceptions.md R413). No body. -/
opaque Config.resetInput : IrqView → Bool

/-- A free byte: the n-th draw, for the given use. No body: nothing can be proved of its value. -/
opaque Config.freeByte : Nat → FreeUse → Byte

/-- A free bit: the n-th draw, for the given use. No body. -/
opaque Config.freeBit : Nat → FreeUse → Bool

/-- The bytes RAM takes at a reset signal (70_reset_and_hazards.md R440; D13). No body. -/
opaque Config.freeCells : Nat → List Host.Cell

/-- `Sfr.read` with width 8 (D5): the byte a product SFR answers, from the history of accesses and its address.
No body. -/
opaque Config.sfrByte : List DevEvent → Nat → Byte

/-- `Sfr.read` with width 16 (D5, D30). No body. -/
opaque Config.sfrWord : List DevEvent → Nat → Word

end Sys2Proof
end

