-- ==== Sys2Proof/Syntax.lean ====
section
/-!
DEFINITION. The instructions: one constructor per row of spec/opcode_table.json, in the table's order.
An operand byte or word of an encoding is a bit vector; a register, pair, bank or shift count is a name or a number.
-/

namespace Sys2Proof

/-- The 8-bit general registers, in the order of their codes 0 to 7 (30_encoding.md R97). -/
inductive Reg where
  | x | a | c | b | e | d | l | h
  deriving DecidableEq, Repr

/-- The register pairs, in the order of their codes 0 to 3 (30_encoding.md R98). -/
inductive RegPair where
  | ax | bc | de | hl
  deriving DecidableEq, Repr

/-- The register banks (10_state.md R13). -/
inductive BankNo where
  | rb0 | rb1 | rb2 | rb3
  deriving DecidableEq, Repr

/-- One instruction. Fields: `sa` the saddr byte, `sf` the sfr byte, `addr` a 16-bit absolute address, `base` the
`word` of based addressing, `off` the `byte` offset, `data` an immediate, `bit` a bit number, `disp` a displacement,
`target` a 20-bit address, `cnt` a shift count, `k` the number of a CALLT table entry. A field's allowed values are
those of `Instr.wf`. -/
inductive Instr where
  -- 8-bit transfers (40_transfer8.md)
  /-- MOV r,#byte -/
  | movRImm (r : Reg) (data : Byte)
  /-- MOV saddr,#byte -/
  | movSaddrImm (sa : Byte) (data : Byte)
  /-- MOV sfr,#byte -/
  | movSfrImm (sf : Byte) (data : Byte)
  /-- MOV !addr16,#byte -/
  | movAbsImm (addr : Word) (data : Byte)
  /-- MOV ES:!addr16,#byte -/
  | movEsAbsImm (addr : Word) (data : Byte)
  /-- MOV A,r -/
  | movAR (r : Reg)
  /-- MOV r,A -/
  | movRA (r : Reg)
  /-- MOV A,saddr -/
  | movASaddr (sa : Byte)
  /-- MOV saddr,A -/
  | movSaddrA (sa : Byte)
  /-- MOV A,sfr -/
  | movASfr (sf : Byte)
  /-- MOV sfr,A -/
  | movSfrA (sf : Byte)
  /-- MOV A,!addr16 -/
  | movAAbs (addr : Word)
  /-- MOV A,ES:!addr16 -/
  | movAEsAbs (addr : Word)
  /-- MOV !addr16,A -/
  | movAbsA (addr : Word)
  /-- MOV ES:!addr16,A -/
  | movEsAbsA (addr : Word)
  /-- MOV PSW,#byte -/
  | movPswImm (data : Byte)
  /-- MOV A,PSW -/
  | movAPsw
  /-- MOV PSW,A -/
  | movPswA
  /-- MOV ES,#byte -/
  | movEsImm (data : Byte)
  /-- MOV ES,saddr -/
  | movEsSaddr (sa : Byte)
  /-- MOV A,ES -/
  | movAEs
  /-- MOV ES,A -/
  | movEsA
  /-- MOV CS,#byte -/
  | movCsImm (data : Byte)
  /-- MOV A,CS -/
  | movACs
  /-- MOV CS,A -/
  | movCsA
  /-- MOV A,[DE] -/
  | movAAtDe
  /-- MOV A,ES:[DE] -/
  | movAEsAtDe
  /-- MOV [DE],A -/
  | movAtDeA
  /-- MOV ES:[DE],A -/
  | movEsAtDeA
  /-- MOV [DE+byte],#byte -/
  | movDeOffImm (off : Byte) (data : Byte)
  /-- MOV ES:[DE+byte],#byte -/
  | movEsDeOffImm (off : Byte) (data : Byte)
  /-- MOV A,[DE+byte] -/
  | movADeOff (off : Byte)
  /-- MOV A,ES:[DE+byte] -/
  | movAEsDeOff (off : Byte)
  /-- MOV [DE+byte],A -/
  | movDeOffA (off : Byte)
  /-- MOV ES:[DE+byte],A -/
  | movEsDeOffA (off : Byte)
  /-- MOV A,[HL] -/
  | movAAtHl
  /-- MOV A,ES:[HL] -/
  | movAEsAtHl
  /-- MOV [HL],A -/
  | movAtHlA
  /-- MOV ES:[HL],A -/
  | movEsAtHlA
  /-- MOV [HL+byte],#byte -/
  | movHlOffImm (off : Byte) (data : Byte)
  /-- MOV ES:[HL+byte],#byte -/
  | movEsHlOffImm (off : Byte) (data : Byte)
  /-- MOV A,[HL+byte] -/
  | movAHlOff (off : Byte)
  /-- MOV A,ES:[HL+byte] -/
  | movAEsHlOff (off : Byte)
  /-- MOV [HL+byte],A -/
  | movHlOffA (off : Byte)
  /-- MOV ES:[HL+byte],A -/
  | movEsHlOffA (off : Byte)
  /-- MOV A,[HL+B] -/
  | movAHlB
  /-- MOV A,ES:[HL+B] -/
  | movAEsHlB
  /-- MOV [HL+B],A -/
  | movHlBA
  /-- MOV ES:[HL+B],A -/
  | movEsHlBA
  /-- MOV A,[HL+C] -/
  | movAHlC
  /-- MOV A,ES:[HL+C] -/
  | movAEsHlC
  /-- MOV [HL+C],A -/
  | movHlCA
  /-- MOV ES:[HL+C],A -/
  | movEsHlCA
  /-- MOV word[B],#byte -/
  | movWordBImm (base : Word) (data : Byte)
  /-- MOV ES:word[B],#byte -/
  | movEsWordBImm (base : Word) (data : Byte)
  /-- MOV A,word[B] -/
  | movAWordB (base : Word)
  /-- MOV A,ES:word[B] -/
  | movAEsWordB (base : Word)
  /-- MOV word[B],A -/
  | movWordBA (base : Word)
  /-- MOV ES:word[B],A -/
  | movEsWordBA (base : Word)
  /-- MOV word[C],#byte -/
  | movWordCImm (base : Word) (data : Byte)
  /-- MOV ES:word[C],#byte -/
  | movEsWordCImm (base : Word) (data : Byte)
  /-- MOV A,word[C] -/
  | movAWordC (base : Word)
  /-- MOV A,ES:word[C] -/
  | movAEsWordC (base : Word)
  /-- MOV word[C],A -/
  | movWordCA (base : Word)
  /-- MOV ES:word[C],A -/
  | movEsWordCA (base : Word)
  /-- MOV word[BC],#byte -/
  | movWordBcImm (base : Word) (data : Byte)
  /-- MOV ES:word[BC],#byte -/
  | movEsWordBcImm (base : Word) (data : Byte)
  /-- MOV A,word[BC] -/
  | movAWordBc (base : Word)
  /-- MOV A,ES:word[BC] -/
  | movAEsWordBc (base : Word)
  /-- MOV word[BC],A -/
  | movWordBcA (base : Word)
  /-- MOV ES:word[BC],A -/
  | movEsWordBcA (base : Word)
  /-- MOV [SP+byte],#byte -/
  | movSpOffImm (off : Byte) (data : Byte)
  /-- MOV A,[SP+byte] -/
  | movASpOff (off : Byte)
  /-- MOV [SP+byte],A -/
  | movSpOffA (off : Byte)
  /-- MOV B,saddr -/
  | movBSaddr (sa : Byte)
  /-- MOV B,!addr16 -/
  | movBAbs (addr : Word)
  /-- MOV B,ES:!addr16 -/
  | movBEsAbs (addr : Word)
  /-- MOV C,saddr -/
  | movCSaddr (sa : Byte)
  /-- MOV C,!addr16 -/
  | movCAbs (addr : Word)
  /-- MOV C,ES:!addr16 -/
  | movCEsAbs (addr : Word)
  /-- MOV X,saddr -/
  | movXSaddr (sa : Byte)
  /-- MOV X,!addr16 -/
  | movXAbs (addr : Word)
  /-- MOV X,ES:!addr16 -/
  | movXEsAbs (addr : Word)
  /-- XCH A,X -/
  | xchAX
  /-- XCH A,r -/
  | xchAR (r : Reg)
  /-- XCH A,saddr -/
  | xchASaddr (sa : Byte)
  /-- XCH A,sfr -/
  | xchASfr (sf : Byte)
  /-- XCH A,!addr16 -/
  | xchAAbs (addr : Word)
  /-- XCH A,ES:!addr16 -/
  | xchAEsAbs (addr : Word)
  /-- XCH A,[DE] -/
  | xchAAtDe
  /-- XCH A,ES:[DE] -/
  | xchAEsAtDe
  /-- XCH A,[DE+byte] -/
  | xchADeOff (off : Byte)
  /-- XCH A,ES:[DE+byte] -/
  | xchAEsDeOff (off : Byte)
  /-- XCH A,[HL] -/
  | xchAAtHl
  /-- XCH A,ES:[HL] -/
  | xchAEsAtHl
  /-- XCH A,[HL+byte] -/
  | xchAHlOff (off : Byte)
  /-- XCH A,ES:[HL+byte] -/
  | xchAEsHlOff (off : Byte)
  /-- XCH A,[HL+B] -/
  | xchAHlB
  /-- XCH A,ES:[HL+B] -/
  | xchAEsHlB
  /-- XCH A,[HL+C] -/
  | xchAHlC
  /-- XCH A,ES:[HL+C] -/
  | xchAEsHlC
  /-- ONEB r -/
  | onebR (r : Reg)
  /-- ONEB saddr -/
  | onebSaddr (sa : Byte)
  /-- ONEB !addr16 -/
  | onebAbs (addr : Word)
  /-- ONEB ES:!addr16 -/
  | onebEsAbs (addr : Word)
  /-- CLRB r -/
  | clrbR (r : Reg)
  /-- CLRB saddr -/
  | clrbSaddr (sa : Byte)
  /-- CLRB !addr16 -/
  | clrbAbs (addr : Word)
  /-- CLRB ES:!addr16 -/
  | clrbEsAbs (addr : Word)
  /-- MOVS [HL+byte],X -/
  | movsHlOffX (off : Byte)
  /-- MOVS ES:[HL+byte],X -/
  | movsEsHlOffX (off : Byte)
  -- 16-bit transfers (41_transfer16.md)
  /-- MOVW rp,#word -/
  | movwRpImm (rp : RegPair) (data : Word)
  /-- MOVW saddrp,#word -/
  | movwSaddrpImm (sa : Byte) (data : Word)
  /-- MOVW sfrp,#word -/
  | movwSfrpImm (sf : Byte) (data : Word)
  /-- MOVW AX,saddrp -/
  | movwAxSaddrp (sa : Byte)
  /-- MOVW saddrp,AX -/
  | movwSaddrpAx (sa : Byte)
  /-- MOVW AX,sfrp -/
  | movwAxSfrp (sf : Byte)
  /-- MOVW sfrp,AX -/
  | movwSfrpAx (sf : Byte)
  /-- MOVW AX,rp -/
  | movwAxRp (rp : RegPair)
  /-- MOVW rp,AX -/
  | movwRpAx (rp : RegPair)
  /-- MOVW AX,!addr16 -/
  | movwAxAbs (addr : Word)
  /-- MOVW AX,ES:!addr16 -/
  | movwAxEsAbs (addr : Word)
  /-- MOVW !addr16,AX -/
  | movwAbsAx (addr : Word)
  /-- MOVW ES:!addr16,AX -/
  | movwEsAbsAx (addr : Word)
  /-- MOVW AX,[DE] -/
  | movwAxAtDe
  /-- MOVW AX,ES:[DE] -/
  | movwAxEsAtDe
  /-- MOVW [DE],AX -/
  | movwAtDeAx
  /-- MOVW ES:[DE],AX -/
  | movwEsAtDeAx
  /-- MOVW AX,[DE+byte] -/
  | movwAxDeOff (off : Byte)
  /-- MOVW AX,ES:[DE+byte] -/
  | movwAxEsDeOff (off : Byte)
  /-- MOVW [DE+byte],AX -/
  | movwDeOffAx (off : Byte)
  /-- MOVW ES:[DE+byte],AX -/
  | movwEsDeOffAx (off : Byte)
  /-- MOVW AX,[HL] -/
  | movwAxAtHl
  /-- MOVW AX,ES:[HL] -/
  | movwAxEsAtHl
  /-- MOVW [HL],AX -/
  | movwAtHlAx
  /-- MOVW ES:[HL],AX -/
  | movwEsAtHlAx
  /-- MOVW AX,[HL+byte] -/
  | movwAxHlOff (off : Byte)
  /-- MOVW AX,ES:[HL+byte] -/
  | movwAxEsHlOff (off : Byte)
  /-- MOVW [HL+byte],AX -/
  | movwHlOffAx (off : Byte)
  /-- MOVW ES:[HL+byte],AX -/
  | movwEsHlOffAx (off : Byte)
  /-- MOVW AX,word[B] -/
  | movwAxWordB (base : Word)
  /-- MOVW AX,ES:word[B] -/
  | movwAxEsWordB (base : Word)
  /-- MOVW word[B],AX -/
  | movwWordBAx (base : Word)
  /-- MOVW ES:word[B],AX -/
  | movwEsWordBAx (base : Word)
  /-- MOVW AX,word[C] -/
  | movwAxWordC (base : Word)
  /-- MOVW AX,ES:word[C] -/
  | movwAxEsWordC (base : Word)
  /-- MOVW word[C],AX -/
  | movwWordCAx (base : Word)
  /-- MOVW ES:word[C],AX -/
  | movwEsWordCAx (base : Word)
  /-- MOVW AX,word[BC] -/
  | movwAxWordBc (base : Word)
  /-- MOVW AX,ES:word[BC] -/
  | movwAxEsWordBc (base : Word)
  /-- MOVW word[BC],AX -/
  | movwWordBcAx (base : Word)
  /-- MOVW ES:word[BC],AX -/
  | movwEsWordBcAx (base : Word)
  /-- MOVW AX,[SP+byte] -/
  | movwAxSpOff (off : Byte)
  /-- MOVW [SP+byte],AX -/
  | movwSpOffAx (off : Byte)
  /-- MOVW rp,saddrp -/
  | movwRpSaddrp (rp : RegPair) (sa : Byte)
  /-- MOVW rp,!addr16 -/
  | movwRpAbs (rp : RegPair) (addr : Word)
  /-- MOVW rp,ES:!addr16 -/
  | movwRpEsAbs (rp : RegPair) (addr : Word)
  /-- XCHW AX,rp -/
  | xchwAxRp (rp : RegPair)
  /-- ONEW AX -/
  | onewAx
  /-- ONEW BC -/
  | onewBc
  /-- CLRW AX -/
  | clrwAx
  /-- CLRW BC -/
  | clrwBc
  -- 8-bit operations (42_alu8.md)
  /-- ADD A,#byte -/
  | addAImm (data : Byte)
  /-- ADD saddr,#byte -/
  | addSaddrImm (sa : Byte) (data : Byte)
  /-- ADD A,r -/
  | addAR (r : Reg)
  /-- ADD r,A -/
  | addRA (r : Reg)
  /-- ADD A,saddr -/
  | addASaddr (sa : Byte)
  /-- ADD A,!addr16 -/
  | addAAbs (addr : Word)
  /-- ADD A,ES:!addr16 -/
  | addAEsAbs (addr : Word)
  /-- ADD A,[HL] -/
  | addAAtHl
  /-- ADD A,ES:[HL] -/
  | addAEsAtHl
  /-- ADD A,[HL+byte] -/
  | addAHlOff (off : Byte)
  /-- ADD A,ES:[HL+byte] -/
  | addAEsHlOff (off : Byte)
  /-- ADD A,[HL+B] -/
  | addAHlB
  /-- ADD A,ES:[HL+B] -/
  | addAEsHlB
  /-- ADD A,[HL+C] -/
  | addAHlC
  /-- ADD A,ES:[HL+C] -/
  | addAEsHlC
  /-- ADDC A,#byte -/
  | addcAImm (data : Byte)
  /-- ADDC saddr,#byte -/
  | addcSaddrImm (sa : Byte) (data : Byte)
  /-- ADDC A,r -/
  | addcAR (r : Reg)
  /-- ADDC r,A -/
  | addcRA (r : Reg)
  /-- ADDC A,saddr -/
  | addcASaddr (sa : Byte)
  /-- ADDC A,!addr16 -/
  | addcAAbs (addr : Word)
  /-- ADDC A,ES:!addr16 -/
  | addcAEsAbs (addr : Word)
  /-- ADDC A,[HL] -/
  | addcAAtHl
  /-- ADDC A,ES:[HL] -/
  | addcAEsAtHl
  /-- ADDC A,[HL+byte] -/
  | addcAHlOff (off : Byte)
  /-- ADDC A,ES:[HL+byte] -/
  | addcAEsHlOff (off : Byte)
  /-- ADDC A,[HL+B] -/
  | addcAHlB
  /-- ADDC A,ES:[HL+B] -/
  | addcAEsHlB
  /-- ADDC A,[HL+C] -/
  | addcAHlC
  /-- ADDC A,ES:[HL+C] -/
  | addcAEsHlC
  /-- SUB A,#byte -/
  | subAImm (data : Byte)
  /-- SUB saddr,#byte -/
  | subSaddrImm (sa : Byte) (data : Byte)
  /-- SUB A,r -/
  | subAR (r : Reg)
  /-- SUB r,A -/
  | subRA (r : Reg)
  /-- SUB A,saddr -/
  | subASaddr (sa : Byte)
  /-- SUB A,!addr16 -/
  | subAAbs (addr : Word)
  /-- SUB A,ES:!addr16 -/
  | subAEsAbs (addr : Word)
  /-- SUB A,[HL] -/
  | subAAtHl
  /-- SUB A,ES:[HL] -/
  | subAEsAtHl
  /-- SUB A,[HL+byte] -/
  | subAHlOff (off : Byte)
  /-- SUB A,ES:[HL+byte] -/
  | subAEsHlOff (off : Byte)
  /-- SUB A,[HL+B] -/
  | subAHlB
  /-- SUB A,ES:[HL+B] -/
  | subAEsHlB
  /-- SUB A,[HL+C] -/
  | subAHlC
  /-- SUB A,ES:[HL+C] -/
  | subAEsHlC
  /-- SUBC A,#byte -/
  | subcAImm (data : Byte)
  /-- SUBC saddr,#byte -/
  | subcSaddrImm (sa : Byte) (data : Byte)
  /-- SUBC A,r -/
  | subcAR (r : Reg)
  /-- SUBC r,A -/
  | subcRA (r : Reg)
  /-- SUBC A,saddr -/
  | subcASaddr (sa : Byte)
  /-- SUBC A,!addr16 -/
  | subcAAbs (addr : Word)
  /-- SUBC A,ES:!addr16 -/
  | subcAEsAbs (addr : Word)
  /-- SUBC A,[HL] -/
  | subcAAtHl
  /-- SUBC A,ES:[HL] -/
  | subcAEsAtHl
  /-- SUBC A,[HL+byte] -/
  | subcAHlOff (off : Byte)
  /-- SUBC A,ES:[HL+byte] -/
  | subcAEsHlOff (off : Byte)
  /-- SUBC A,[HL+B] -/
  | subcAHlB
  /-- SUBC A,ES:[HL+B] -/
  | subcAEsHlB
  /-- SUBC A,[HL+C] -/
  | subcAHlC
  /-- SUBC A,ES:[HL+C] -/
  | subcAEsHlC
  /-- CMP A,#byte -/
  | cmpAImm (data : Byte)
  /-- CMP saddr,#byte -/
  | cmpSaddrImm (sa : Byte) (data : Byte)
  /-- CMP A,r -/
  | cmpAR (r : Reg)
  /-- CMP r,A -/
  | cmpRA (r : Reg)
  /-- CMP A,saddr -/
  | cmpASaddr (sa : Byte)
  /-- CMP A,!addr16 -/
  | cmpAAbs (addr : Word)
  /-- CMP A,ES:!addr16 -/
  | cmpAEsAbs (addr : Word)
  /-- CMP A,[HL] -/
  | cmpAAtHl
  /-- CMP A,ES:[HL] -/
  | cmpAEsAtHl
  /-- CMP A,[HL+byte] -/
  | cmpAHlOff (off : Byte)
  /-- CMP A,ES:[HL+byte] -/
  | cmpAEsHlOff (off : Byte)
  /-- CMP A,[HL+B] -/
  | cmpAHlB
  /-- CMP A,ES:[HL+B] -/
  | cmpAEsHlB
  /-- CMP A,[HL+C] -/
  | cmpAHlC
  /-- CMP A,ES:[HL+C] -/
  | cmpAEsHlC
  /-- AND A,#byte -/
  | andAImm (data : Byte)
  /-- AND saddr,#byte -/
  | andSaddrImm (sa : Byte) (data : Byte)
  /-- AND A,r -/
  | andAR (r : Reg)
  /-- AND r,A -/
  | andRA (r : Reg)
  /-- AND A,saddr -/
  | andASaddr (sa : Byte)
  /-- AND A,!addr16 -/
  | andAAbs (addr : Word)
  /-- AND A,ES:!addr16 -/
  | andAEsAbs (addr : Word)
  /-- AND A,[HL] -/
  | andAAtHl
  /-- AND A,ES:[HL] -/
  | andAEsAtHl
  /-- AND A,[HL+byte] -/
  | andAHlOff (off : Byte)
  /-- AND A,ES:[HL+byte] -/
  | andAEsHlOff (off : Byte)
  /-- AND A,[HL+B] -/
  | andAHlB
  /-- AND A,ES:[HL+B] -/
  | andAEsHlB
  /-- AND A,[HL+C] -/
  | andAHlC
  /-- AND A,ES:[HL+C] -/
  | andAEsHlC
  /-- OR A,#byte -/
  | orAImm (data : Byte)
  /-- OR saddr,#byte -/
  | orSaddrImm (sa : Byte) (data : Byte)
  /-- OR A,r -/
  | orAR (r : Reg)
  /-- OR r,A -/
  | orRA (r : Reg)
  /-- OR A,saddr -/
  | orASaddr (sa : Byte)
  /-- OR A,!addr16 -/
  | orAAbs (addr : Word)
  /-- OR A,ES:!addr16 -/
  | orAEsAbs (addr : Word)
  /-- OR A,[HL] -/
  | orAAtHl
  /-- OR A,ES:[HL] -/
  | orAEsAtHl
  /-- OR A,[HL+byte] -/
  | orAHlOff (off : Byte)
  /-- OR A,ES:[HL+byte] -/
  | orAEsHlOff (off : Byte)
  /-- OR A,[HL+B] -/
  | orAHlB
  /-- OR A,ES:[HL+B] -/
  | orAEsHlB
  /-- OR A,[HL+C] -/
  | orAHlC
  /-- OR A,ES:[HL+C] -/
  | orAEsHlC
  /-- XOR A,#byte -/
  | xorAImm (data : Byte)
  /-- XOR saddr,#byte -/
  | xorSaddrImm (sa : Byte) (data : Byte)
  /-- XOR A,r -/
  | xorAR (r : Reg)
  /-- XOR r,A -/
  | xorRA (r : Reg)
  /-- XOR A,saddr -/
  | xorASaddr (sa : Byte)
  /-- XOR A,!addr16 -/
  | xorAAbs (addr : Word)
  /-- XOR A,ES:!addr16 -/
  | xorAEsAbs (addr : Word)
  /-- XOR A,[HL] -/
  | xorAAtHl
  /-- XOR A,ES:[HL] -/
  | xorAEsAtHl
  /-- XOR A,[HL+byte] -/
  | xorAHlOff (off : Byte)
  /-- XOR A,ES:[HL+byte] -/
  | xorAEsHlOff (off : Byte)
  /-- XOR A,[HL+B] -/
  | xorAHlB
  /-- XOR A,ES:[HL+B] -/
  | xorAEsHlB
  /-- XOR A,[HL+C] -/
  | xorAHlC
  /-- XOR A,ES:[HL+C] -/
  | xorAEsHlC
  /-- CMP !addr16,#byte -/
  | cmpAbsImm (addr : Word) (data : Byte)
  /-- CMP ES:!addr16,#byte -/
  | cmpEsAbsImm (addr : Word) (data : Byte)
  /-- CMP0 r -/
  | cmp0R (r : Reg)
  /-- CMP0 saddr -/
  | cmp0Saddr (sa : Byte)
  /-- CMP0 !addr16 -/
  | cmp0Abs (addr : Word)
  /-- CMP0 ES:!addr16 -/
  | cmp0EsAbs (addr : Word)
  /-- CMPS X,[HL+byte] -/
  | cmpsXHlOff (off : Byte)
  /-- CMPS X,ES:[HL+byte] -/
  | cmpsXEsHlOff (off : Byte)
  -- 16-bit operations (43_alu16.md)
  /-- ADDW AX,#word -/
  | addwAxImm (data : Word)
  /-- ADDW AX,rp -/
  | addwAxRp (rp : RegPair)
  /-- ADDW AX,saddrp -/
  | addwAxSaddrp (sa : Byte)
  /-- ADDW AX,!addr16 -/
  | addwAxAbs (addr : Word)
  /-- ADDW AX,ES:!addr16 -/
  | addwAxEsAbs (addr : Word)
  /-- ADDW AX,[HL+byte] -/
  | addwAxHlOff (off : Byte)
  /-- ADDW AX,ES:[HL+byte] -/
  | addwAxEsHlOff (off : Byte)
  /-- SUBW AX,#word -/
  | subwAxImm (data : Word)
  /-- SUBW AX,rp -/
  | subwAxRp (rp : RegPair)
  /-- SUBW AX,saddrp -/
  | subwAxSaddrp (sa : Byte)
  /-- SUBW AX,!addr16 -/
  | subwAxAbs (addr : Word)
  /-- SUBW AX,ES:!addr16 -/
  | subwAxEsAbs (addr : Word)
  /-- SUBW AX,[HL+byte] -/
  | subwAxHlOff (off : Byte)
  /-- SUBW AX,ES:[HL+byte] -/
  | subwAxEsHlOff (off : Byte)
  /-- CMPW AX,#word -/
  | cmpwAxImm (data : Word)
  /-- CMPW AX,rp -/
  | cmpwAxRp (rp : RegPair)
  /-- CMPW AX,saddrp -/
  | cmpwAxSaddrp (sa : Byte)
  /-- CMPW AX,!addr16 -/
  | cmpwAxAbs (addr : Word)
  /-- CMPW AX,ES:!addr16 -/
  | cmpwAxEsAbs (addr : Word)
  /-- CMPW AX,[HL+byte] -/
  | cmpwAxHlOff (off : Byte)
  /-- CMPW AX,ES:[HL+byte] -/
  | cmpwAxEsHlOff (off : Byte)
  -- multiply, divide, multiply-accumulate (44_muldiv.md)
  /-- MULU X -/
  | muluX
  /-- MULHU -/
  | mulhu
  /-- MULH -/
  | mulh
  /-- DIVHU -/
  | divhu
  /-- DIVWU -/
  | divwu
  /-- MACHU -/
  | machu
  /-- MACH -/
  | mach
  -- increment, decrement (45_incdec.md)
  /-- INC r -/
  | incR (r : Reg)
  /-- INC saddr -/
  | incSaddr (sa : Byte)
  /-- INC !addr16 -/
  | incAbs (addr : Word)
  /-- INC ES:!addr16 -/
  | incEsAbs (addr : Word)
  /-- INC [HL+byte] -/
  | incHlOff (off : Byte)
  /-- INC ES:[HL+byte] -/
  | incEsHlOff (off : Byte)
  /-- DEC r -/
  | decR (r : Reg)
  /-- DEC saddr -/
  | decSaddr (sa : Byte)
  /-- DEC !addr16 -/
  | decAbs (addr : Word)
  /-- DEC ES:!addr16 -/
  | decEsAbs (addr : Word)
  /-- DEC [HL+byte] -/
  | decHlOff (off : Byte)
  /-- DEC ES:[HL+byte] -/
  | decEsHlOff (off : Byte)
  /-- INCW rp -/
  | incwRp (rp : RegPair)
  /-- INCW saddrp -/
  | incwSaddrp (sa : Byte)
  /-- INCW !addr16 -/
  | incwAbs (addr : Word)
  /-- INCW ES:!addr16 -/
  | incwEsAbs (addr : Word)
  /-- INCW [HL+byte] -/
  | incwHlOff (off : Byte)
  /-- INCW ES:[HL+byte] -/
  | incwEsHlOff (off : Byte)
  /-- DECW rp -/
  | decwRp (rp : RegPair)
  /-- DECW saddrp -/
  | decwSaddrp (sa : Byte)
  /-- DECW !addr16 -/
  | decwAbs (addr : Word)
  /-- DECW ES:!addr16 -/
  | decwEsAbs (addr : Word)
  /-- DECW [HL+byte] -/
  | decwHlOff (off : Byte)
  /-- DECW ES:[HL+byte] -/
  | decwEsHlOff (off : Byte)
  -- shifts and rotates (46_shift_rotate.md)
  /-- SHR A,cnt -/
  | shrA (cnt : Fin 16)
  /-- SHRW AX,cnt -/
  | shrwAx (cnt : Fin 16)
  /-- SHL A,cnt -/
  | shlA (cnt : Fin 16)
  /-- SHL B,cnt -/
  | shlB (cnt : Fin 16)
  /-- SHL C,cnt -/
  | shlC (cnt : Fin 16)
  /-- SHLW AX,cnt -/
  | shlwAx (cnt : Fin 16)
  /-- SHLW BC,cnt -/
  | shlwBc (cnt : Fin 16)
  /-- SAR A,cnt -/
  | sarA (cnt : Fin 16)
  /-- SARW AX,cnt -/
  | sarwAx (cnt : Fin 16)
  /-- ROR A,1 -/
  | rorA
  /-- ROL A,1 -/
  | rolA
  /-- RORC A,1 -/
  | rorcA
  /-- ROLC A,1 -/
  | rolcA
  /-- ROLWC AX,1 -/
  | rolwcAx
  /-- ROLWC BC,1 -/
  | rolwcBc
  -- bit manipulation (47_bit.md)
  /-- MOV1 CY,A.bit -/
  | mov1CyABit (bit : Fin 8)
  /-- MOV1 A.bit,CY -/
  | mov1ABitCy (bit : Fin 8)
  /-- MOV1 CY,PSW.bit -/
  | mov1CyPswBit (bit : Fin 8)
  /-- MOV1 PSW.bit,CY -/
  | mov1PswBitCy (bit : Fin 8)
  /-- MOV1 CY,saddr.bit -/
  | mov1CySaddrBit (sa : Byte) (bit : Fin 8)
  /-- MOV1 saddr.bit,CY -/
  | mov1SaddrBitCy (sa : Byte) (bit : Fin 8)
  /-- MOV1 CY,sfr.bit -/
  | mov1CySfrBit (sf : Byte) (bit : Fin 8)
  /-- MOV1 sfr.bit,CY -/
  | mov1SfrBitCy (sf : Byte) (bit : Fin 8)
  /-- MOV1 CY,[HL].bit -/
  | mov1CyHlBit (bit : Fin 8)
  /-- MOV1 CY,ES:[HL].bit -/
  | mov1CyEsHlBit (bit : Fin 8)
  /-- MOV1 [HL].bit,CY -/
  | mov1HlBitCy (bit : Fin 8)
  /-- MOV1 ES:[HL].bit,CY -/
  | mov1EsHlBitCy (bit : Fin 8)
  /-- AND1 CY,A.bit -/
  | and1CyABit (bit : Fin 8)
  /-- AND1 CY,PSW.bit -/
  | and1CyPswBit (bit : Fin 8)
  /-- AND1 CY,saddr.bit -/
  | and1CySaddrBit (sa : Byte) (bit : Fin 8)
  /-- AND1 CY,sfr.bit -/
  | and1CySfrBit (sf : Byte) (bit : Fin 8)
  /-- AND1 CY,[HL].bit -/
  | and1CyHlBit (bit : Fin 8)
  /-- AND1 CY,ES:[HL].bit -/
  | and1CyEsHlBit (bit : Fin 8)
  /-- OR1 CY,A.bit -/
  | or1CyABit (bit : Fin 8)
  /-- OR1 CY,PSW.bit -/
  | or1CyPswBit (bit : Fin 8)
  /-- OR1 CY,saddr.bit -/
  | or1CySaddrBit (sa : Byte) (bit : Fin 8)
  /-- OR1 CY,sfr.bit -/
  | or1CySfrBit (sf : Byte) (bit : Fin 8)
  /-- OR1 CY,[HL].bit -/
  | or1CyHlBit (bit : Fin 8)
  /-- OR1 CY,ES:[HL].bit -/
  | or1CyEsHlBit (bit : Fin 8)
  /-- XOR1 CY,A.bit -/
  | xor1CyABit (bit : Fin 8)
  /-- XOR1 CY,PSW.bit -/
  | xor1CyPswBit (bit : Fin 8)
  /-- XOR1 CY,saddr.bit -/
  | xor1CySaddrBit (sa : Byte) (bit : Fin 8)
  /-- XOR1 CY,sfr.bit -/
  | xor1CySfrBit (sf : Byte) (bit : Fin 8)
  /-- XOR1 CY,[HL].bit -/
  | xor1CyHlBit (bit : Fin 8)
  /-- XOR1 CY,ES:[HL].bit -/
  | xor1CyEsHlBit (bit : Fin 8)
  /-- SET1 A.bit -/
  | set1ABit (bit : Fin 8)
  /-- SET1 PSW.bit -/
  | set1PswBit (bit : Fin 8)
  /-- SET1 !addr16.bit -/
  | set1AbsBit (addr : Word) (bit : Fin 8)
  /-- SET1 ES:!addr16.bit -/
  | set1EsAbsBit (addr : Word) (bit : Fin 8)
  /-- SET1 saddr.bit -/
  | set1SaddrBit (sa : Byte) (bit : Fin 8)
  /-- SET1 sfr.bit -/
  | set1SfrBit (sf : Byte) (bit : Fin 8)
  /-- SET1 [HL].bit -/
  | set1HlBit (bit : Fin 8)
  /-- SET1 ES:[HL].bit -/
  | set1EsHlBit (bit : Fin 8)
  /-- CLR1 A.bit -/
  | clr1ABit (bit : Fin 8)
  /-- CLR1 PSW.bit -/
  | clr1PswBit (bit : Fin 8)
  /-- CLR1 !addr16.bit -/
  | clr1AbsBit (addr : Word) (bit : Fin 8)
  /-- CLR1 ES:!addr16.bit -/
  | clr1EsAbsBit (addr : Word) (bit : Fin 8)
  /-- CLR1 saddr.bit -/
  | clr1SaddrBit (sa : Byte) (bit : Fin 8)
  /-- CLR1 sfr.bit -/
  | clr1SfrBit (sf : Byte) (bit : Fin 8)
  /-- CLR1 [HL].bit -/
  | clr1HlBit (bit : Fin 8)
  /-- CLR1 ES:[HL].bit -/
  | clr1EsHlBit (bit : Fin 8)
  /-- SET1 CY -/
  | set1Cy
  /-- CLR1 CY -/
  | clr1Cy
  /-- NOT1 CY -/
  | not1Cy
  -- calls, returns, stack (48_call_return_stack.md)
  /-- CALL rp -/
  | callRp (rp : RegPair)
  /-- CALL $!addr20 -/
  | callRel16 (disp : Word)
  /-- CALL !addr16 -/
  | callAbs16 (addr : Word)
  /-- CALL !!addr20 -/
  | callAbs20 (target : Addr)
  /-- CALLT [addr5] -/
  | callt (k : Fin 32)
  /-- BRK -/
  | brk
  /-- RET -/
  | ret
  /-- RETI -/
  | reti
  /-- RETB -/
  | retb
  /-- PUSH PSW -/
  | pushPsw
  /-- PUSH rp -/
  | pushRp (rp : RegPair)
  /-- POP PSW -/
  | popPsw
  /-- POP rp -/
  | popRp (rp : RegPair)
  /-- MOVW SP,#word -/
  | movwSpImm (data : Word)
  /-- MOVW SP,AX -/
  | movwSpAx
  /-- MOVW AX,SP -/
  | movwAxSp
  /-- MOVW rp,SP -/
  | movwRpSp (rp : RegPair)
  /-- ADDW SP,#byte -/
  | addwSpImm (data : Byte)
  /-- SUBW SP,#byte -/
  | subwSpImm (data : Byte)
  -- branches (49_branch_skip_control.md)
  /-- BR AX -/
  | brAx
  /-- BR $addr20 -/
  | brRel8 (disp : Byte)
  /-- BR $!addr20 -/
  | brRel16 (disp : Word)
  /-- BR !addr16 -/
  | brAbs16 (addr : Word)
  /-- BR !!addr20 -/
  | brAbs20 (target : Addr)
  /-- BC $addr20 -/
  | bc (disp : Byte)
  /-- BNC $addr20 -/
  | bnc (disp : Byte)
  /-- BZ $addr20 -/
  | bz (disp : Byte)
  /-- BNZ $addr20 -/
  | bnz (disp : Byte)
  /-- BH $addr20 -/
  | bh (disp : Byte)
  /-- BNH $addr20 -/
  | bnh (disp : Byte)
  /-- BT saddr.bit,$addr20 -/
  | btSaddrBit (sa : Byte) (bit : Fin 8) (disp : Byte)
  /-- BT sfr.bit,$addr20 -/
  | btSfrBit (sf : Byte) (bit : Fin 8) (disp : Byte)
  /-- BT A.bit,$addr20 -/
  | btABit (bit : Fin 8) (disp : Byte)
  /-- BT PSW.bit,$addr20 -/
  | btPswBit (bit : Fin 8) (disp : Byte)
  /-- BT [HL].bit,$addr20 -/
  | btHlBit (bit : Fin 8) (disp : Byte)
  /-- BT ES:[HL].bit,$addr20 -/
  | btEsHlBit (bit : Fin 8) (disp : Byte)
  /-- BF saddr.bit,$addr20 -/
  | bfSaddrBit (sa : Byte) (bit : Fin 8) (disp : Byte)
  /-- BF sfr.bit,$addr20 -/
  | bfSfrBit (sf : Byte) (bit : Fin 8) (disp : Byte)
  /-- BF A.bit,$addr20 -/
  | bfABit (bit : Fin 8) (disp : Byte)
  /-- BF PSW.bit,$addr20 -/
  | bfPswBit (bit : Fin 8) (disp : Byte)
  /-- BF [HL].bit,$addr20 -/
  | bfHlBit (bit : Fin 8) (disp : Byte)
  /-- BF ES:[HL].bit,$addr20 -/
  | bfEsHlBit (bit : Fin 8) (disp : Byte)
  /-- BTCLR saddr.bit,$addr20 -/
  | btclrSaddrBit (sa : Byte) (bit : Fin 8) (disp : Byte)
  /-- BTCLR sfr.bit,$addr20 -/
  | btclrSfrBit (sf : Byte) (bit : Fin 8) (disp : Byte)
  /-- BTCLR A.bit,$addr20 -/
  | btclrABit (bit : Fin 8) (disp : Byte)
  /-- BTCLR PSW.bit,$addr20 -/
  | btclrPswBit (bit : Fin 8) (disp : Byte)
  /-- BTCLR [HL].bit,$addr20 -/
  | btclrHlBit (bit : Fin 8) (disp : Byte)
  /-- BTCLR ES:[HL].bit,$addr20 -/
  | btclrEsHlBit (bit : Fin 8) (disp : Byte)
  -- skips and CPU control (49_branch_skip_control.md), and the PREFIX byte
  /-- SKC -/
  | skc
  /-- SKNC -/
  | sknc
  /-- SKZ -/
  | skz
  /-- SKNZ -/
  | sknz
  /-- SKH -/
  | skh
  /-- SKNH -/
  | sknh
  /-- SEL RBn -/
  | sel (n : BankNo)
  /-- NOP -/
  | nop
  /-- EI -/
  | ei
  /-- DI -/
  | di
  /-- HALT -/
  | halt
  /-- STOP -/
  | stop
  /-- the PREFIX byte 11H before bytes that have no `ES:` form (30_encoding.md R95) -/
  | prefixByte
  deriving DecidableEq, Repr

end Sys2Proof
end

