-- ==== Sys2Proof/Machine/Bits.lean ====
section
/-!
DEFINITION. Bit fields, byte order and sign extension (00_scope.md section 5.2), used by the decoder and the machine.
-/

namespace Sys2Proof

/-- Bits 7-0 of a word. -/
def lowByte (w : Word) : Byte := w.extractLsb' 0 8

/-- Bits 15-8 of a word. -/
def highByte (w : Word) : Byte := w.extractLsb' 8 8

/-- `hi:lo`, the word of two bytes; in memory `lo` is at the even address (20_memory.md R50). -/
def wordOf (hi lo : Byte) : Word := hi ++ lo

/-- Bits 15-0 of a double word. -/
def lowWord (d : DWord) : Word := d.extractLsb' 0 16

/-- Bits 31-16 of a double word. -/
def highWord (d : DWord) : Word := d.extractLsb' 16 16

/-- `hi:lo`, the double word of two words. -/
def dwordOf (hi lo : Word) : DWord := hi ++ lo

/-- `seg:off`, the 20-bit address of a 4-bit segment and a 16-bit offset (31_addressing.md R144). -/
def addrOf (seg : BitVec 4) (off : Word) : Addr := seg ++ off

/-- The address of a word access: bit 0 is taken as 0 (20_memory.md R53, D9). -/
def evenAddr (a : Addr) : Addr := a &&& 0xFFFFE

/-- Bit `i` of a byte. -/
def bitOf (b : Byte) (i : Fin 8) : Bool := b.getLsbD i.val

/-- The byte whose only 1 is bit `i`. -/
def bitMask (i : Fin 8) : Byte := 1#8 <<< i.val

/-- `b` with bit `i` made `v`, the other bits as they are. -/
def putBit (b : Byte) (i : Fin 8) (v : Bool) : Byte := if v then b ||| bitMask i else b &&& ~~~ bitMask i

/-- A Bool as the number 0 or 1. -/
def bitVal (v : Bool) : Nat := if v then 1 else 0

/-- `jdisp8` as a 20-bit displacement (30_encoding.md R103). -/
def sext8 (d : Byte) : Addr := d.signExtend 20

/-- `jdisp16` as a 20-bit displacement (30_encoding.md R103). -/
def sext16 (d : Word) : Addr := d.signExtend 20

/-- The 3-bit code of a register (30_encoding.md R97). -/
def Reg.code : Reg → Byte
  | .x => 0 | .a => 1 | .c => 2 | .b => 3 | .e => 4 | .d => 5 | .l => 6 | .h => 7

/-- The register of a 3-bit code, taken modulo 8. -/
def Reg.ofCode (n : Nat) : Reg :=
  match n % 8 with
  | 0 => .x | 1 => .a | 2 => .c | 3 => .b | 4 => .e | 5 => .d | 6 => .l | _ => .h

/-- The 2-bit code of a register pair (30_encoding.md R98). -/
def RegPair.code : RegPair → Byte
  | .ax => 0 | .bc => 1 | .de => 2 | .hl => 3

/-- The high register of a pair (10_state.md R14). -/
def RegPair.high : RegPair → Reg
  | .ax => .a | .bc => .b | .de => .d | .hl => .h

/-- The low register of a pair (10_state.md R14). -/
def RegPair.low : RegPair → Reg
  | .ax => .x | .bc => .c | .de => .e | .hl => .l

/-- The number of a register bank. -/
def BankNo.code : BankNo → Byte
  | .rb0 => 0 | .rb1 => 1 | .rb2 => 2 | .rb3 => 3

end Sys2Proof
end

