-- ==== Sys2Proof/Machine/Memory.lean ====
section
/-!
DEFINITION. The bytes of the 1 MB address space (20_memory.md R50) as a sparse list in one canonical form.
-/

namespace Sys2Proof.Machine

/-- Memory: (address, byte) pairs, addresses strictly rising, no entry equal to what an unlisted address reads as. -/
abbrev Memory := List Host.Cell

/-- What an unlisted address reads as: FFH below F0000H (unprogrammed flash), 00H from F0000H on.
DESIGN CHOICE (log 4), unsafe: the spec gives RAM no reset value and leaves flash to its programmer. -/
def unlistedByte (a : Nat) : Byte := if a < 0xF0000 then 0xFF else 0x00

/-- The byte at an address. -/
def Memory.read : Memory → Nat → Byte
  | [], a => unlistedByte a
  | (b, w) :: rest, a => if a = b then w else Memory.read rest a

/-- Put one cell at the head of a memory whose entries all lie above it, unless the cell is what an unlisted address
reads as. -/
def Memory.cons (m : Memory) (a : Nat) (v : Byte) : Memory := if v = unlistedByte a then m else (a, v) :: m

/-- Store a byte; the canonical form is kept. -/
def Memory.write : Memory → Nat → Byte → Memory
  | [], a, v => Memory.cons [] a v
  | (b, w) :: rest, a, v =>
    if a < b then Memory.cons ((b, w) :: rest) a v
    else if a = b then Memory.cons rest a v
    else (b, w) :: Memory.write rest a v

/-- Every address of a memory lies above `a`. -/
def Memory.above (a : Nat) (m : Memory) : Bool := m.all fun c => decide (a < c.1)

/-- The canonical form: addresses strictly rising, no entry equal to what an unlisted address reads as. -/
def Memory.wf : Memory → Bool
  | [] => true
  | (a, v) :: rest => v != unlistedByte a && Memory.above a rest && Memory.wf rest

end Sys2Proof.Machine
end

