-- ==== Sys2Proof/Machine/State.lean ====
section
/-!
DEFINITION. The state of the machine (10_state.md R10), the reasons a step can stop, and the state after reset.
-/

namespace Sys2Proof.Machine

/-- Why the machine stops with a fault. The CPU has no synchronous exception but BRK (60_exceptions.md R400): these are
accesses to addresses at which the spec says nothing is. -/
inductive Fault where
  /-- A data access resolves to an unusable or unimplemented area. Raised by every instruction with a data operand in
  memory (20_memory.md R51 step 7, R55; D36). Safe: the spec refuses it. -/
  | unusableArea
  /-- An instruction byte lies in no area that code may be fetched from, or the program runs off its end. Raised by
  `step` (20_memory.md R52; D19). Safe: the spec refuses it. -/
  | fetchOutsideCode
  deriving DecidableEq, Repr

/-- Why a step has no meaning. -/
inductive Refusal where
  /-- An instruction that has no meaning yet. Raised by no arm of the finished model. Safe. -/
  | notModelled (mnemonic : String)
  /-- The bytes at the program counter are an unassigned encoding. Raised by `step` (30_encoding.md R110-R116; D3).
  Safe: the spec refuses it. -/
  | unassignedCode
  /-- PREFIX before bytes that have no `ES:` form. Raised by the PREFIX byte's own arm (30_encoding.md R95; D27).
  Safe: the spec refuses it. -/
  | prefixWithoutEsForm
  /-- A store to code flash, data flash or the mirror. Raised by every storing instruction (20_memory.md R70; D28).
  Safe: the spec refuses it. -/
  | flashStore
  /-- A based or based-indexed address sum beyond FFFFH. Raised by every instruction with such an operand
  (31_addressing.md R145; D10). Safe: the spec refuses it. -/
  | addressSumOverflow
  /-- A stack access in the general-register area. Raised by every instruction and entry that uses the stack
  (10_state.md R16, 93_implementation_defined.md U6). Safe: the spec refuses it. -/
  | registerAreaStack
  /-- A taken relative branch or call from RAM to outside RAM (49_branch_skip_control.md R361; D20). Safe: the spec
  refuses it. -/
  | relativeBranchFromRam
  /-- A write of PMC with bit 0 = 1 on RL78-S1 (10_state.md R30; D37). Safe: the spec refuses it. -/
  | pmcOnS1
  /-- An accepted interrupt request whose vector is odd or outside 00002H-0007CH (60_exceptions.md R402; D24). Raised
  by `step`. Safe: the spec calls it a refused configuration. -/
  | irqVector
  /-- An instruction the core does not have: SEL on S1, the extension instructions on S1 and S2 (44_muldiv.md R260,
  49_branch_skip_control.md R386). No run raises it, since the decoder of such a core has no such instruction. Safe. -/
  | notOnThisCore
  deriving DecidableEq, Repr

/-- How an operation stops. -/
inductive Stop where
  | fault (f : Fault)
  | refused (r : Refusal)
  deriving DecidableEq, Repr

/-- The standby state (10_state.md R37). -/
inductive RunMode where
  | run | halt | stop
  deriving DecidableEq, Repr

/-- One bank of the general registers, in the order of their addresses (10_state.md R14). -/
structure Bank where
  x : Byte
  a : Byte
  c : Byte
  b : Byte
  e : Byte
  d : Byte
  l : Byte
  h : Byte
  deriving DecidableEq, Repr

/-- The program status word (10_state.md R20): its eight bits, from bit 7 to bit 0. No bit is reserved, so the eight
bits are the whole register; `Psw.toByte` and `Psw.ofByte` are its byte. -/
structure Psw where
  /-- bit 7, interrupt enable (R21) -/
  ie : Bool
  /-- bit 6, zero (R22) -/
  z : Bool
  /-- bit 5, register bank select, high bit (R23); 0 on S1 -/
  rbs1 : Bool
  /-- bit 4, auxiliary carry (R24) -/
  ac : Bool
  /-- bit 3, register bank select, low bit (R23); 0 on S1 -/
  rbs0 : Bool
  /-- bit 2, in-service priority, high bit (R25) -/
  isp1 : Bool
  /-- bit 1, in-service priority, low bit (R25) -/
  isp0 : Bool
  /-- bit 0, carry (R26) -/
  cy : Bool
  deriving DecidableEq, Repr

/-- The state of one RL78 CPU core and its memory (10_state.md R10). -/
structure State where
  /-- the product's parameters (00_scope.md R6), changed by no step; the model's own field (log 5) -/
  cfg : Config
  /-- PC (R11) -/
  pc : Addr
  /-- PSW (R20) -/
  psw : Psw
  /-- SP (R28) -/
  sp : Word
  /-- ES (R31) -/
  es : Byte
  /-- CS (R32) -/
  cs : Byte
  /-- PMC (R30) -/
  pmc : Byte
  /-- MACR, S3 (R34) -/
  macr : DWord
  /-- general registers, bank 0 (R12-R14) -/
  bank0 : Bank
  /-- general registers, bank 1 (S2, S3) -/
  bank1 : Bank
  /-- general registers, bank 2 (S2, S3) -/
  bank2 : Bank
  /-- general registers, bank 3 (S2, S3) -/
  bank3 : Bank
  /-- code flash, data flash and internal RAM below the register area (20_memory.md R54) -/
  mem : Memory
  /-- `mem` as instruction fetch sees it: at each byte a store since the last control transfer, if there was one, may not
  have been seen yet (20_memory.md R75); the model's own field (log 17) -/
  queue : Memory
  /-- no interrupt before the next instruction (R36) -/
  inhibit : Bool
  /-- the next instruction is skipped (R37) -/
  skip : Bool
  /-- run, halt or stop (R37) -/
  mode : RunMode
  /-- 2 right after the instruction that wrote PMC, 1 during the next instruction, then 0 (70_reset_and_hazards.md
  R452); the model's own field (log 14) -/
  pmcDelay : Nat
  /-- an unprotected DIVHU or DIVWU has just completed (44_muldiv.md R268); the model's own field (log 15) -/
  divHazard : Bool
  /-- the history of product SFR accesses, RETI events and reset signals, oldest first (60_exceptions.md R403); the
  model's own field (log 19) -/
  devLog : List DevEvent
  /-- answers of `Irq`, of the standby release and of the reset signal that are fixed: for each consultation listed, its
  answer; every other consultation is answered by the opaque constants of Config. Changed by no step; the model's own
  field (log 20) -/
  irq : List (IrqView × EnvInput)
  /-- the number of steps so far, to which each free value is applied; the model's own field (log 6) -/
  draws : Nat
  deriving DecidableEq, Repr

/-- A bank of registers all 00H. -/
def Bank.zero : Bank := { x := 0, a := 0, c := 0, b := 0, e := 0, d := 0, l := 0, h := 0 }

/-- PSW after reset, 06H: ISP1 = ISP0 = 1, every other bit 0 (10_state.md R20, R38; D14). -/
def Psw.atReset : Psw where
  ie := false
  z := false
  rbs1 := false
  ac := false
  rbs0 := false
  isp1 := true
  isp0 := true
  cy := false

/-- The machine right after reset (10_state.md R38, 70_reset_and_hazards.md R440): PSW 06H, ES 0FH, CS 00H, PMC 00H,
the hidden flags clear, PC from the word at 00000H. DESIGN CHOICE (log 1-4), unsafe: the general registers, MACR and
SP, which the spec leaves undefined, are 0; the memory lists nothing. -/
def State.reset : State where
  cfg := Config.initial
  pc := addrOf 0 (wordOf (Memory.read [] 1) (Memory.read [] 0))
  psw := Psw.atReset
  sp := 0
  es := 0x0F
  cs := 0x00
  pmc := 0x00
  macr := 0
  bank0 := Bank.zero
  bank1 := Bank.zero
  bank2 := Bank.zero
  bank3 := Bank.zero
  mem := []
  queue := []
  inhibit := false
  skip := false
  mode := .run
  pmcDelay := 0
  divHazard := false
  devLog := []
  irq := []
  draws := 0

end Sys2Proof.Machine
end

