-- ==== Sys2Proof/WellFormed.lean ====
section
/-!
DEFINITION. Which terms of `Instr` are instructions: the operand values their rows of spec/opcode_table.json admit.
A value that belongs to another row (a special case of 30_encoding.md R114, a cell of another instruction) is refused,
so every instruction has one term and every term one encoding.
-/

namespace Sys2Proof

/-- The sfr byte of PSW (10_state.md R33). -/
def pswSfr : Byte := 0xFA
/-- The sfr byte of SP. -/
def spSfr : Byte := 0xF8
/-- The sfr byte of CS. -/
def csSfr : Byte := 0xFC
/-- The sfr byte of ES. -/
def esSfr : Byte := 0xFD
/-- The sfr byte FFFFBH, "Reserve": on S3 the bytes CE FB nn are the extension instructions (30_encoding.md R115). -/
def reserveSfr : Byte := 0xFB
/-- The 16-bit address of SP, which MOVW BC/DE/HL,SP carry (30_encoding.md R114). -/
def spAddr16 : Word := 0xFFF8

/-- The registers CMP0, ONEB and CLRB take (30_encoding.md R97). -/
def Reg.isXACB : Reg → Bool
  | .x | .a | .c | .b => true
  | .e | .d | .l | .h => false

/-- The counts of the byte shifts, 1 to 7 (46_shift_rotate.md R290). -/
def byteCount (cnt : Fin 16) : Bool := cnt != 0 && decide (cnt.val ≤ 7)

/-- The counts of the word shifts, 1 to 15 (46_shift_rotate.md R290). -/
def wordCount (cnt : Fin 16) : Bool := cnt != 0

/-- The sfr bytes of MOV sfr,#byte proper: PSW and CS have rows of their own, and on S3 so has FBH
(30_encoding.md R114, R115). -/
def generalImmSfr (core : CpuCore) (sf : Byte) : Bool :=
  sf != pswSfr && sf != csSfr && !(core == .s3 && sf == reserveSfr)

/-- The sfr bytes of MOV A,sfr and MOV sfr,A proper: PSW, CS and ES have rows of their own (30_encoding.md R114). -/
def generalAccSfr (sf : Byte) : Bool := sf != pswSfr && sf != csSfr && sf != esSfr

/-- The instruction exists on the core and its operands have values its row admits. -/
def Instr.wf (core : CpuCore) (i : Instr) : Bool :=
  match i with
  | .movSfrImm sf _ => generalImmSfr core sf
  | .movAR r => r != .a
  | .movRA r => r != .a
  | .movASfr sf => generalAccSfr sf
  | .movSfrA sf => generalAccSfr sf
  | .xchAR r => r != .x && r != .a
  | .onebR r => r.isXACB
  | .clrbR r => r.isXACB
  | .movwSfrpImm sf _ => sf != spSfr
  | .movwAxSfrp sf => sf != spSfr
  | .movwSfrpAx sf => sf != spSfr
  | .movwAxRp rp => rp != .ax
  | .movwRpAx rp => rp != .ax
  | .movwRpSaddrp rp _ => rp != .ax
  | .movwRpAbs rp addr => rp != .ax && addr != spAddr16
  | .movwRpEsAbs rp _ => rp != .ax
  | .xchwAxRp rp => rp != .ax
  | .addAR r => r != .a
  | .addcAR r => r != .a
  | .subAR r => r != .a
  | .subcAR r => r != .a
  | .cmpAR r => r != .a
  | .andAR r => r != .a
  | .orAR r => r != .a
  | .xorAR r => r != .a
  | .cmp0R r => r.isXACB
  | .subwAxRp rp => rp != .ax
  | .cmpwAxRp rp => rp != .ax
  | .mulhu => core == .s3
  | .mulh => core == .s3
  | .divhu => core == .s3
  | .divwu => core == .s3
  | .machu => core == .s3
  | .mach => core == .s3
  | .shrA cnt => byteCount cnt
  | .shrwAx cnt => wordCount cnt
  | .shlA cnt => byteCount cnt
  | .shlB cnt => byteCount cnt
  | .shlC cnt => byteCount cnt
  | .shlwAx cnt => wordCount cnt
  | .shlwBc cnt => wordCount cnt
  | .sarA cnt => byteCount cnt
  | .sarwAx cnt => wordCount cnt
  | .mov1CySfrBit sf _ => sf != pswSfr
  | .mov1SfrBitCy sf _ => sf != pswSfr
  | .and1CySfrBit sf _ => sf != pswSfr
  | .or1CySfrBit sf _ => sf != pswSfr
  | .xor1CySfrBit sf _ => sf != pswSfr
  | .set1PswBit bit => bit != 7
  | .set1SfrBit sf _ => sf != pswSfr
  | .clr1PswBit bit => bit != 7
  | .clr1SfrBit sf _ => sf != pswSfr
  | .movwRpSp rp => rp != .ax
  | .btSfrBit sf _ _ => sf != pswSfr
  | .bfSfrBit sf _ _ => sf != pswSfr
  | .btclrSfrBit sf _ _ => sf != pswSfr
  | .sel _ => core != .s1
  | .movRImm _ _ | .movSaddrImm _ _ | .movAbsImm _ _ | .movEsAbsImm _ _ | .movASaddr _ | .movSaddrA _ | .movAAbs _
  | .movAEsAbs _ | .movAbsA _ | .movEsAbsA _ | .movPswImm _ | .movAPsw | .movPswA | .movEsImm _ | .movEsSaddr _
  | .movAEs | .movEsA | .movCsImm _ | .movACs | .movCsA | .movAAtDe | .movAEsAtDe | .movAtDeA | .movEsAtDeA
  | .movDeOffImm _ _ | .movEsDeOffImm _ _ | .movADeOff _ | .movAEsDeOff _ | .movDeOffA _ | .movEsDeOffA _
  | .movAAtHl | .movAEsAtHl | .movAtHlA | .movEsAtHlA | .movHlOffImm _ _ | .movEsHlOffImm _ _ | .movAHlOff _
  | .movAEsHlOff _ | .movHlOffA _ | .movEsHlOffA _ | .movAHlB | .movAEsHlB | .movHlBA | .movEsHlBA | .movAHlC
  | .movAEsHlC | .movHlCA | .movEsHlCA | .movWordBImm _ _ | .movEsWordBImm _ _ | .movAWordB _ | .movAEsWordB _
  | .movWordBA _ | .movEsWordBA _ | .movWordCImm _ _ | .movEsWordCImm _ _ | .movAWordC _ | .movAEsWordC _
  | .movWordCA _ | .movEsWordCA _ | .movWordBcImm _ _ | .movEsWordBcImm _ _ | .movAWordBc _ | .movAEsWordBc _
  | .movWordBcA _ | .movEsWordBcA _ | .movSpOffImm _ _ | .movASpOff _ | .movSpOffA _ | .movBSaddr _ | .movBAbs _
  | .movBEsAbs _ | .movCSaddr _ | .movCAbs _ | .movCEsAbs _ | .movXSaddr _ | .movXAbs _ | .movXEsAbs _ | .xchAX
  | .xchASaddr _ | .xchASfr _ | .xchAAbs _ | .xchAEsAbs _ | .xchAAtDe | .xchAEsAtDe | .xchADeOff _ | .xchAEsDeOff _
  | .xchAAtHl | .xchAEsAtHl | .xchAHlOff _ | .xchAEsHlOff _ | .xchAHlB | .xchAEsHlB | .xchAHlC | .xchAEsHlC
  | .onebSaddr _ | .onebAbs _ | .onebEsAbs _ | .clrbSaddr _ | .clrbAbs _ | .clrbEsAbs _ | .movsHlOffX _
  | .movsEsHlOffX _ | .movwRpImm _ _ | .movwSaddrpImm _ _ | .movwAxSaddrp _ | .movwSaddrpAx _ | .movwAxAbs _
  | .movwAxEsAbs _ | .movwAbsAx _ | .movwEsAbsAx _ | .movwAxAtDe | .movwAxEsAtDe | .movwAtDeAx | .movwEsAtDeAx
  | .movwAxDeOff _ | .movwAxEsDeOff _ | .movwDeOffAx _ | .movwEsDeOffAx _ | .movwAxAtHl | .movwAxEsAtHl
  | .movwAtHlAx | .movwEsAtHlAx | .movwAxHlOff _ | .movwAxEsHlOff _ | .movwHlOffAx _ | .movwEsHlOffAx _
  | .movwAxWordB _ | .movwAxEsWordB _ | .movwWordBAx _ | .movwEsWordBAx _ | .movwAxWordC _ | .movwAxEsWordC _
  | .movwWordCAx _ | .movwEsWordCAx _ | .movwAxWordBc _ | .movwAxEsWordBc _ | .movwWordBcAx _ | .movwEsWordBcAx _
  | .movwAxSpOff _ | .movwSpOffAx _ | .onewAx | .onewBc | .clrwAx | .clrwBc | .addAImm _ | .addSaddrImm _ _
  | .addRA _ | .addASaddr _ | .addAAbs _ | .addAEsAbs _ | .addAAtHl | .addAEsAtHl | .addAHlOff _ | .addAEsHlOff _
  | .addAHlB | .addAEsHlB | .addAHlC | .addAEsHlC | .addcAImm _ | .addcSaddrImm _ _ | .addcRA _ | .addcASaddr _
  | .addcAAbs _ | .addcAEsAbs _ | .addcAAtHl | .addcAEsAtHl | .addcAHlOff _ | .addcAEsHlOff _ | .addcAHlB
  | .addcAEsHlB | .addcAHlC | .addcAEsHlC | .subAImm _ | .subSaddrImm _ _ | .subRA _ | .subASaddr _ | .subAAbs _
  | .subAEsAbs _ | .subAAtHl | .subAEsAtHl | .subAHlOff _ | .subAEsHlOff _ | .subAHlB | .subAEsHlB | .subAHlC
  | .subAEsHlC | .subcAImm _ | .subcSaddrImm _ _ | .subcRA _ | .subcASaddr _ | .subcAAbs _ | .subcAEsAbs _
  | .subcAAtHl | .subcAEsAtHl | .subcAHlOff _ | .subcAEsHlOff _ | .subcAHlB | .subcAEsHlB | .subcAHlC | .subcAEsHlC
  | .cmpAImm _ | .cmpSaddrImm _ _ | .cmpRA _ | .cmpASaddr _ | .cmpAAbs _ | .cmpAEsAbs _ | .cmpAAtHl | .cmpAEsAtHl
  | .cmpAHlOff _ | .cmpAEsHlOff _ | .cmpAHlB | .cmpAEsHlB | .cmpAHlC | .cmpAEsHlC | .andAImm _ | .andSaddrImm _ _
  | .andRA _ | .andASaddr _ | .andAAbs _ | .andAEsAbs _ | .andAAtHl | .andAEsAtHl | .andAHlOff _ | .andAEsHlOff _
  | .andAHlB | .andAEsHlB | .andAHlC | .andAEsHlC | .orAImm _ | .orSaddrImm _ _ | .orRA _ | .orASaddr _ | .orAAbs _
  | .orAEsAbs _ | .orAAtHl | .orAEsAtHl | .orAHlOff _ | .orAEsHlOff _ | .orAHlB | .orAEsHlB | .orAHlC | .orAEsHlC
  | .xorAImm _ | .xorSaddrImm _ _ | .xorRA _ | .xorASaddr _ | .xorAAbs _ | .xorAEsAbs _ | .xorAAtHl | .xorAEsAtHl
  | .xorAHlOff _ | .xorAEsHlOff _ | .xorAHlB | .xorAEsHlB | .xorAHlC | .xorAEsHlC | .cmpAbsImm _ _
  | .cmpEsAbsImm _ _ | .cmp0Saddr _ | .cmp0Abs _ | .cmp0EsAbs _ | .cmpsXHlOff _ | .cmpsXEsHlOff _ | .addwAxImm _
  | .addwAxRp _ | .addwAxSaddrp _ | .addwAxAbs _ | .addwAxEsAbs _ | .addwAxHlOff _ | .addwAxEsHlOff _
  | .subwAxImm _ | .subwAxSaddrp _ | .subwAxAbs _ | .subwAxEsAbs _ | .subwAxHlOff _ | .subwAxEsHlOff _
  | .cmpwAxImm _ | .cmpwAxSaddrp _ | .cmpwAxAbs _ | .cmpwAxEsAbs _ | .cmpwAxHlOff _ | .cmpwAxEsHlOff _ | .muluX
  | .incR _ | .incSaddr _ | .incAbs _ | .incEsAbs _ | .incHlOff _ | .incEsHlOff _ | .decR _ | .decSaddr _
  | .decAbs _ | .decEsAbs _ | .decHlOff _ | .decEsHlOff _ | .incwRp _ | .incwSaddrp _ | .incwAbs _ | .incwEsAbs _
  | .incwHlOff _ | .incwEsHlOff _ | .decwRp _ | .decwSaddrp _ | .decwAbs _ | .decwEsAbs _ | .decwHlOff _
  | .decwEsHlOff _ | .rorA | .rolA | .rorcA | .rolcA | .rolwcAx | .rolwcBc | .mov1CyABit _ | .mov1ABitCy _
  | .mov1CyPswBit _ | .mov1PswBitCy _ | .mov1CySaddrBit _ _ | .mov1SaddrBitCy _ _ | .mov1CyHlBit _
  | .mov1CyEsHlBit _ | .mov1HlBitCy _ | .mov1EsHlBitCy _ | .and1CyABit _ | .and1CyPswBit _ | .and1CySaddrBit _ _
  | .and1CyHlBit _ | .and1CyEsHlBit _ | .or1CyABit _ | .or1CyPswBit _ | .or1CySaddrBit _ _ | .or1CyHlBit _
  | .or1CyEsHlBit _ | .xor1CyABit _ | .xor1CyPswBit _ | .xor1CySaddrBit _ _ | .xor1CyHlBit _ | .xor1CyEsHlBit _
  | .set1ABit _ | .set1AbsBit _ _ | .set1EsAbsBit _ _ | .set1SaddrBit _ _ | .set1HlBit _ | .set1EsHlBit _
  | .clr1ABit _ | .clr1AbsBit _ _ | .clr1EsAbsBit _ _ | .clr1SaddrBit _ _ | .clr1HlBit _ | .clr1EsHlBit _ | .set1Cy
  | .clr1Cy | .not1Cy | .callRp _ | .callRel16 _ | .callAbs16 _ | .callAbs20 _ | .callt _ | .brk | .ret | .reti
  | .retb | .pushPsw | .pushRp _ | .popPsw | .popRp _ | .movwSpImm _ | .movwSpAx | .movwAxSp | .addwSpImm _
  | .subwSpImm _ | .brAx | .brRel8 _ | .brRel16 _ | .brAbs16 _ | .brAbs20 _ | .bc _ | .bnc _ | .bz _ | .bnz _
  | .bh _ | .bnh _ | .btSaddrBit _ _ _ | .btABit _ _ | .btPswBit _ _ | .btHlBit _ _ | .btEsHlBit _ _
  | .bfSaddrBit _ _ _ | .bfABit _ _ | .bfPswBit _ _ | .bfHlBit _ _ | .bfEsHlBit _ _ | .btclrSaddrBit _ _ _
  | .btclrABit _ _ | .btclrPswBit _ _ | .btclrHlBit _ _ | .btclrEsHlBit _ _ | .skc | .sknc | .skz | .sknz | .skh
  | .sknh | .nop | .ei | .di | .halt | .stop | .prefixByte => true

end Sys2Proof
end

