-- ==== Sys2Proof/Decode.lean ====
section
/-!
DEFINITION. The decoder, total on any bytes (30_encoding.md R109), from the four opcode maps (R120-R123) and the `ES:`
rows; and the encoder, from the codes of spec/opcode_table.json.
-/

namespace Sys2Proof

/-- Why bytes are no instruction. -/
inductive DecodeError where
  /-- a blank cell of an opcode map, or an encoding the spec treats as one (30_encoding.md R110-R116) -/
  | unassigned
  /-- the bytes end inside the instruction -/
  | truncated
  deriving DecidableEq, Repr

/-- A cell of an opcode map: the instruction as a function of the operand bytes that follow the opcode. -/
inductive Form where
  /-- a blank cell -/
  | unassigned
  /-- no operand byte -/
  | fixed (i : Instr)
  /-- one operand byte -/
  | byte (g : Byte → Instr)
  /-- two bytes, low byte first (R96) -/
  | word (g : Word → Instr)
  /-- two operand bytes -/
  | byteByte (g : Byte → Byte → Instr)
  /-- an address word, then an immediate byte -/
  | wordByte (g : Word → Byte → Instr)
  /-- an address byte, then an immediate word -/
  | byteWord (g : Byte → Word → Instr)
  /-- `adrl adrh adrs` (R102) -/
  | addr20 (g : Addr → Instr)
  /-- cell CE: MOV sfr,#byte, its special cases, and on S3 the extension instructions (R114, R115) -/
  | immSfr

/-! Lean's compiled runtime has no objects for the constructors of so large a type past its 244th, so what builds an
`Instr` is not compiled; the kernel evaluates it all the same. -/
noncomputable section

/-- Cell CE of the 1st map (30_encoding.md R114, R115; D4). -/
def movImmSfr (core : CpuCore) (sf data : Byte) : Option Instr :=
  if sf = pswSfr then some (.movPswImm data)
  else if sf = csSfr then some (.movCsImm data)
  else if sf = reserveSfr ∧ core = .s3 then
    if data = 0x01 then some .mulhu
    else if data = 0x02 then some .mulh
    else if data = 0x03 then some .divhu
    else if data = 0x0B then some .divwu
    else if data = 0x05 then some .machu
    else if data = 0x06 then some .mach
    else none
  else some (.movSfrImm sf data)

/-- Cell 8E: MOV A,sfr and its special cases (30_encoding.md R114). -/
def movAccSfr (sf : Byte) : Instr :=
  if sf = pswSfr then .movAPsw else if sf = csSfr then .movACs else if sf = esSfr then .movAEs else .movASfr sf

/-- Cell 9E: MOV sfr,A and its special cases (30_encoding.md R114). -/
def movSfrAcc (sf : Byte) : Instr :=
  if sf = pswSfr then .movPswA else if sf = csSfr then .movCsA else if sf = esSfr then .movEsA else .movSfrA sf

/-- SEL RBn, unassigned on S1 (30_encoding.md R111). -/
def selForm (core : CpuCore) (n : BankNo) : Form :=
  if core = .s1 then .unassigned else .fixed (.sel n)

/-- Read a form's operand bytes. `n` is how many bytes the prefix and opcode took; the answer has the whole length. -/
def readForm (core : CpuCore) (n : Nat) : Form → List Byte → Except DecodeError (Instr × Nat)
  | .unassigned, _ => .error .unassigned
  | .fixed i, _ => .ok (i, n)
  | .byte g, b :: _ => .ok (g b, n + 1)
  | .word g, l :: h :: _ => .ok (g (wordOf h l), n + 2)
  | .byteByte g, b :: d :: _ => .ok (g b d, n + 2)
  | .wordByte g, l :: h :: d :: _ => .ok (g (wordOf h l) d, n + 3)
  | .byteWord g, b :: l :: h :: _ => .ok (g b (wordOf h l), n + 3)
  | .addr20 g, l :: h :: s :: _ =>
      if s.extractLsb' 4 4 = 0 then .ok (g (addrOf (s.extractLsb' 0 4) (wordOf h l)), n + 3) else .error .unassigned
  | .immSfr, sf :: d :: _ =>
      match movImmSfr core sf d with
      | some i => .ok (i, n + 2)
      | none => .error .unassigned
  | _, _ => .error .truncated

/-! The 1st map (30_encoding.md R120). Cells 11, 61, 71 and 31 are escapes: `decode` never looks them up here. -/

/-- Row 0 of the 1st map. -/
def map1Row0 : List Form :=
  [ .fixed .nop,
    .fixed (.addwAxRp .ax),
    .word .addwAxAbs,
    .fixed (.addwAxRp .bc),
    .word .addwAxImm,
    .fixed (.addwAxRp .de),
    .byte .addwAxSaddrp,
    .fixed (.addwAxRp .hl),
    .fixed .xchAX,
    .word .movAWordB,
    .byteByte .addSaddrImm,
    .byte .addASaddr,
    .byte .addAImm,
    .fixed .addAAtHl,
    .byte .addAHlOff,
    .word .addAAbs ]

/-- Row 1 of the 1st map. -/
def map1Row1 : List Form :=
  [ .byte .addwSpImm,
    .unassigned,
    .fixed (.movwRpAx .bc),
    .fixed (.movwAxRp .bc),
    .fixed (.movwRpAx .de),
    .fixed (.movwAxRp .de),
    .fixed (.movwRpAx .hl),
    .fixed (.movwAxRp .hl),
    .word .movWordBA,
    .wordByte .movWordBImm,
    .byteByte .addcSaddrImm,
    .byte .addcASaddr,
    .byte .addcAImm,
    .fixed .addcAAtHl,
    .byte .addcAHlOff,
    .word .addcAAbs ]

/-- Row 2 of the 1st map. -/
def map1Row2 : List Form :=
  [ .byte .subwSpImm,
    .unassigned,
    .word .subwAxAbs,
    .fixed (.subwAxRp .bc),
    .word .subwAxImm,
    .fixed (.subwAxRp .de),
    .byte .subwAxSaddrp,
    .fixed (.subwAxRp .hl),
    .word .movWordCA,
    .word .movAWordC,
    .byteByte .subSaddrImm,
    .byte .subASaddr,
    .byte .subAImm,
    .fixed .subAAtHl,
    .byte .subAHlOff,
    .word .subAAbs ]

/-- Row 3 of the 1st map. -/
def map1Row3 : List Form :=
  [ .word (.movwRpImm .ax),
    .unassigned,
    .word (.movwRpImm .bc),
    .fixed (.xchwAxRp .bc),
    .word (.movwRpImm .de),
    .fixed (.xchwAxRp .de),
    .word (.movwRpImm .hl),
    .fixed (.xchwAxRp .hl),
    .wordByte .movWordCImm,
    .wordByte .movWordBcImm,
    .byteByte .subcSaddrImm,
    .byte .subcASaddr,
    .byte .subcAImm,
    .fixed .subcAAtHl,
    .byte .subcAHlOff,
    .word .subcAAbs ]

/-- Row 4 of the 1st map. -/
def map1Row4 : List Form :=
  [ .wordByte .cmpAbsImm,
    .byte .movEsImm,
    .word .cmpwAxAbs,
    .fixed (.cmpwAxRp .bc),
    .word .cmpwAxImm,
    .fixed (.cmpwAxRp .de),
    .byte .cmpwAxSaddrp,
    .fixed (.cmpwAxRp .hl),
    .word .movWordBcA,
    .word .movAWordBc,
    .byteByte .cmpSaddrImm,
    .byte .cmpASaddr,
    .byte .cmpAImm,
    .fixed .cmpAAtHl,
    .byte .cmpAHlOff,
    .word .cmpAAbs ]

/-- Row 5 of the 1st map. -/
def map1Row5 : List Form :=
  [ .byte (.movRImm .x),
    .byte (.movRImm .a),
    .byte (.movRImm .c),
    .byte (.movRImm .b),
    .byte (.movRImm .e),
    .byte (.movRImm .d),
    .byte (.movRImm .l),
    .byte (.movRImm .h),
    .word .movwWordBAx,
    .word .movwAxWordB,
    .byteByte .andSaddrImm,
    .byte .andASaddr,
    .byte .andAImm,
    .fixed .andAAtHl,
    .byte .andAHlOff,
    .word .andAAbs ]

/-- Row 6 of the 1st map. -/
def map1Row6 : List Form :=
  [ .fixed (.movAR .x),
    .unassigned,
    .fixed (.movAR .c),
    .fixed (.movAR .b),
    .fixed (.movAR .e),
    .fixed (.movAR .d),
    .fixed (.movAR .l),
    .fixed (.movAR .h),
    .word .movwWordCAx,
    .word .movwAxWordC,
    .byteByte .orSaddrImm,
    .byte .orASaddr,
    .byte .orAImm,
    .fixed .orAAtHl,
    .byte .orAHlOff,
    .word .orAAbs ]

/-- Row 7 of the 1st map. -/
def map1Row7 : List Form :=
  [ .fixed (.movRA .x),
    .unassigned,
    .fixed (.movRA .c),
    .fixed (.movRA .b),
    .fixed (.movRA .e),
    .fixed (.movRA .d),
    .fixed (.movRA .l),
    .fixed (.movRA .h),
    .word .movwWordBcAx,
    .word .movwAxWordBc,
    .byteByte .xorSaddrImm,
    .byte .xorASaddr,
    .byte .xorAImm,
    .fixed .xorAAtHl,
    .byte .xorAHlOff,
    .word .xorAAbs ]

/-- Row 8 of the 1st map. -/
def map1Row8 : List Form :=
  [ .fixed (.incR .x),
    .fixed (.incR .a),
    .fixed (.incR .c),
    .fixed (.incR .b),
    .fixed (.incR .e),
    .fixed (.incR .d),
    .fixed (.incR .l),
    .fixed (.incR .h),
    .byte .movASpOff,
    .fixed .movAAtDe,
    .byte .movADeOff,
    .fixed .movAAtHl,
    .byte .movAHlOff,
    .byte .movASaddr,
    .byte movAccSfr,
    .word .movAAbs ]

/-- Row 9 of the 1st map. -/
def map1Row9 : List Form :=
  [ .fixed (.decR .x),
    .fixed (.decR .a),
    .fixed (.decR .c),
    .fixed (.decR .b),
    .fixed (.decR .e),
    .fixed (.decR .d),
    .fixed (.decR .l),
    .fixed (.decR .h),
    .byte .movSpOffA,
    .fixed .movAtDeA,
    .byte .movDeOffA,
    .fixed .movAtHlA,
    .byte .movHlOffA,
    .byte .movSaddrA,
    .byte movSfrAcc,
    .word .movAbsA ]

/-- Row A of the 1st map. -/
def map1RowA : List Form :=
  [ .word .incAbs,
    .fixed (.incwRp .ax),
    .word .incwAbs,
    .fixed (.incwRp .bc),
    .byte .incSaddr,
    .fixed (.incwRp .de),
    .byte .incwSaddrp,
    .fixed (.incwRp .hl),
    .byte .movwAxSpOff,
    .fixed .movwAxAtDe,
    .byte .movwAxDeOff,
    .fixed .movwAxAtHl,
    .byte .movwAxHlOff,
    .byte .movwAxSaddrp,
    .byte fun sf => if sf = spSfr then .movwAxSp else .movwAxSfrp sf,
    .word .movwAxAbs ]

/-- Row B of the 1st map. -/
def map1RowB : List Form :=
  [ .word .decAbs,
    .fixed (.decwRp .ax),
    .word .decwAbs,
    .fixed (.decwRp .bc),
    .byte .decSaddr,
    .fixed (.decwRp .de),
    .byte .decwSaddrp,
    .fixed (.decwRp .hl),
    .byte .movwSpOffAx,
    .fixed .movwAtDeAx,
    .byte .movwDeOffAx,
    .fixed .movwAtHlAx,
    .byte .movwHlOffAx,
    .byte .movwSaddrpAx,
    .byte fun sf => if sf = spSfr then .movwSpAx else .movwSfrpAx sf,
    .word .movwAbsAx ]

/-- Row C of the 1st map. -/
def map1RowC : List Form :=
  [ .fixed (.popRp .ax),
    .fixed (.pushRp .ax),
    .fixed (.popRp .bc),
    .fixed (.pushRp .bc),
    .fixed (.popRp .de),
    .fixed (.pushRp .de),
    .fixed (.popRp .hl),
    .fixed (.pushRp .hl),
    .byteByte .movSpOffImm,
    .byteWord .movwSaddrpImm,
    .byteByte .movDeOffImm,
    .byteWord fun sf data => if sf = spSfr then .movwSpImm data else .movwSfrpImm sf data,
    .byteByte .movHlOffImm,
    .byteByte .movSaddrImm,
    .immSfr,
    .wordByte .movAbsImm ]

/-- Row D of the 1st map. -/
def map1RowD : List Form :=
  [ .fixed (.cmp0R .x),
    .fixed (.cmp0R .a),
    .fixed (.cmp0R .c),
    .fixed (.cmp0R .b),
    .byte .cmp0Saddr,
    .word .cmp0Abs,
    .fixed .muluX,
    .fixed .ret,
    .byte .movXSaddr,
    .word .movXAbs,
    .byte (.movwRpSaddrp .bc),
    .word fun addr => if addr = spAddr16 then .movwRpSp .bc else .movwRpAbs .bc addr,
    .byte .bc,
    .byte .bz,
    .byte .bnc,
    .byte .bnz ]

/-- Row E of the 1st map. -/
def map1RowE : List Form :=
  [ .fixed (.onebR .x),
    .fixed (.onebR .a),
    .fixed (.onebR .c),
    .fixed (.onebR .b),
    .byte .onebSaddr,
    .word .onebAbs,
    .fixed .onewAx,
    .fixed .onewBc,
    .byte .movBSaddr,
    .word .movBAbs,
    .byte (.movwRpSaddrp .de),
    .word fun addr => if addr = spAddr16 then .movwRpSp .de else .movwRpAbs .de addr,
    .addr20 .brAbs20,
    .word .brAbs16,
    .word .brRel16,
    .byte .brRel8 ]

/-- Row F of the 1st map. -/
def map1RowF : List Form :=
  [ .fixed (.clrbR .x),
    .fixed (.clrbR .a),
    .fixed (.clrbR .c),
    .fixed (.clrbR .b),
    .byte .clrbSaddr,
    .word .clrbAbs,
    .fixed .clrwAx,
    .fixed .clrwBc,
    .byte .movCSaddr,
    .word .movCAbs,
    .byte (.movwRpSaddrp .hl),
    .word fun addr => if addr = spAddr16 then .movwRpSp .hl else .movwRpAbs .hl addr,
    .addr20 .callAbs20,
    .word .callAbs16,
    .word .callRel16,
    .unassigned ]

/-- The 1st map. -/
def map1 : List (List Form) :=
  [map1Row0, map1Row1, map1Row2, map1Row3, map1Row4, map1Row5, map1Row6, map1Row7] ++
  [map1Row8, map1Row9, map1RowA, map1RowB, map1RowC, map1RowD, map1RowE, map1RowF]

/-! The 2nd map, the byte after 61H (30_encoding.md R121). -/

/-- Row 0 of the 2nd map. -/
def map2Row0 : List Form :=
  [ .fixed (.addRA .x),
    .fixed (.addRA .a),
    .fixed (.addRA .c),
    .fixed (.addRA .b),
    .fixed (.addRA .e),
    .fixed (.addRA .d),
    .fixed (.addRA .l),
    .fixed (.addRA .h),
    .fixed (.addAR .x),
    .byte .addwAxHlOff,
    .fixed (.addAR .c),
    .fixed (.addAR .b),
    .fixed (.addAR .e),
    .fixed (.addAR .d),
    .fixed (.addAR .l),
    .fixed (.addAR .h) ]

/-- Row 1 of the 2nd map. -/
def map2Row1 : List Form :=
  [ .fixed (.addcRA .x),
    .fixed (.addcRA .a),
    .fixed (.addcRA .c),
    .fixed (.addcRA .b),
    .fixed (.addcRA .e),
    .fixed (.addcRA .d),
    .fixed (.addcRA .l),
    .fixed (.addcRA .h),
    .fixed (.addcAR .x),
    .unassigned,
    .fixed (.addcAR .c),
    .fixed (.addcAR .b),
    .fixed (.addcAR .e),
    .fixed (.addcAR .d),
    .fixed (.addcAR .l),
    .fixed (.addcAR .h) ]

/-- Row 2 of the 2nd map. -/
def map2Row2 : List Form :=
  [ .fixed (.subRA .x),
    .fixed (.subRA .a),
    .fixed (.subRA .c),
    .fixed (.subRA .b),
    .fixed (.subRA .e),
    .fixed (.subRA .d),
    .fixed (.subRA .l),
    .fixed (.subRA .h),
    .fixed (.subAR .x),
    .byte .subwAxHlOff,
    .fixed (.subAR .c),
    .fixed (.subAR .b),
    .fixed (.subAR .e),
    .fixed (.subAR .d),
    .fixed (.subAR .l),
    .fixed (.subAR .h) ]

/-- Row 3 of the 2nd map. -/
def map2Row3 : List Form :=
  [ .fixed (.subcRA .x),
    .fixed (.subcRA .a),
    .fixed (.subcRA .c),
    .fixed (.subcRA .b),
    .fixed (.subcRA .e),
    .fixed (.subcRA .d),
    .fixed (.subcRA .l),
    .fixed (.subcRA .h),
    .fixed (.subcAR .x),
    .unassigned,
    .fixed (.subcAR .c),
    .fixed (.subcAR .b),
    .fixed (.subcAR .e),
    .fixed (.subcAR .d),
    .fixed (.subcAR .l),
    .fixed (.subcAR .h) ]

/-- Row 4 of the 2nd map. -/
def map2Row4 : List Form :=
  [ .fixed (.cmpRA .x),
    .fixed (.cmpRA .a),
    .fixed (.cmpRA .c),
    .fixed (.cmpRA .b),
    .fixed (.cmpRA .e),
    .fixed (.cmpRA .d),
    .fixed (.cmpRA .l),
    .fixed (.cmpRA .h),
    .fixed (.cmpAR .x),
    .byte .cmpwAxHlOff,
    .fixed (.cmpAR .c),
    .fixed (.cmpAR .b),
    .fixed (.cmpAR .e),
    .fixed (.cmpAR .d),
    .fixed (.cmpAR .l),
    .fixed (.cmpAR .h) ]

/-- Row 5 of the 2nd map. -/
def map2Row5 : List Form :=
  [ .fixed (.andRA .x),
    .fixed (.andRA .a),
    .fixed (.andRA .c),
    .fixed (.andRA .b),
    .fixed (.andRA .e),
    .fixed (.andRA .d),
    .fixed (.andRA .l),
    .fixed (.andRA .h),
    .fixed (.andAR .x),
    .byte .incHlOff,
    .fixed (.andAR .c),
    .fixed (.andAR .b),
    .fixed (.andAR .e),
    .fixed (.andAR .d),
    .fixed (.andAR .l),
    .fixed (.andAR .h) ]

/-- Row 6 of the 2nd map. -/
def map2Row6 : List Form :=
  [ .fixed (.orRA .x),
    .fixed (.orRA .a),
    .fixed (.orRA .c),
    .fixed (.orRA .b),
    .fixed (.orRA .e),
    .fixed (.orRA .d),
    .fixed (.orRA .l),
    .fixed (.orRA .h),
    .fixed (.orAR .x),
    .byte .decHlOff,
    .fixed (.orAR .c),
    .fixed (.orAR .b),
    .fixed (.orAR .e),
    .fixed (.orAR .d),
    .fixed (.orAR .l),
    .fixed (.orAR .h) ]

/-- Row 7 of the 2nd map. -/
def map2Row7 : List Form :=
  [ .fixed (.xorRA .x),
    .fixed (.xorRA .a),
    .fixed (.xorRA .c),
    .fixed (.xorRA .b),
    .fixed (.xorRA .e),
    .fixed (.xorRA .d),
    .fixed (.xorRA .l),
    .fixed (.xorRA .h),
    .fixed (.xorAR .x),
    .byte .incwHlOff,
    .fixed (.xorAR .c),
    .fixed (.xorAR .b),
    .fixed (.xorAR .e),
    .fixed (.xorAR .d),
    .fixed (.xorAR .l),
    .fixed (.xorAR .h) ]

/-- Row 8 of the 2nd map. -/
def map2Row8 : List Form :=
  [ .fixed .addAHlB,
    .unassigned,
    .fixed .addAHlC,
    .unassigned,
    .fixed (.callt 0),
    .fixed (.callt 8),
    .fixed (.callt 16),
    .fixed (.callt 24),
    .unassigned,
    .byte .decwHlOff,
    .fixed (.xchAR .c),
    .fixed (.xchAR .b),
    .fixed (.xchAR .e),
    .fixed (.xchAR .d),
    .fixed (.xchAR .l),
    .fixed (.xchAR .h) ]

/-- Row 9 of the 2nd map. -/
def map2Row9 : List Form :=
  [ .fixed .addcAHlB,
    .unassigned,
    .fixed .addcAHlC,
    .unassigned,
    .fixed (.callt 1),
    .fixed (.callt 9),
    .fixed (.callt 17),
    .fixed (.callt 25),
    .unassigned,
    .unassigned,
    .unassigned,
    .unassigned,
    .unassigned,
    .unassigned,
    .unassigned,
    .unassigned ]

/-- Row A of the 2nd map. -/
def map2RowA : List Form :=
  [ .fixed .subAHlB,
    .unassigned,
    .fixed .subAHlC,
    .unassigned,
    .fixed (.callt 2),
    .fixed (.callt 10),
    .fixed (.callt 18),
    .fixed (.callt 26),
    .byte .xchASaddr,
    .fixed .xchAHlC,
    .word .xchAAbs,
    .byte .xchASfr,
    .fixed .xchAAtHl,
    .byte .xchAHlOff,
    .fixed .xchAAtDe,
    .byte .xchADeOff ]

/-- Row B of the 2nd map. -/
def map2RowB : List Form :=
  [ .fixed .subcAHlB,
    .unassigned,
    .fixed .subcAHlC,
    .unassigned,
    .fixed (.callt 3),
    .fixed (.callt 11),
    .fixed (.callt 19),
    .fixed (.callt 27),
    .byte .movEsSaddr,
    .fixed .xchAHlB,
    .unassigned,
    .unassigned,
    .unassigned,
    .unassigned,
    .unassigned,
    .unassigned ]

/-- Row C of the 2nd map. -/
def map2RowC (core : CpuCore) : List Form :=
  [ .fixed .cmpAHlB,
    .unassigned,
    .fixed .cmpAHlC,
    .byte .bh,
    .fixed (.callt 4),
    .fixed (.callt 12),
    .fixed (.callt 20),
    .fixed (.callt 28),
    .fixed .skc,
    .fixed .movAHlB,
    .fixed (.callRp .ax),
    .fixed .brAx,
    .fixed .brk,
    .fixed .popPsw,
    .byte .movsHlOffX,
    selForm core .rb0 ]

/-- Row D of the 2nd map. -/
def map2RowD (core : CpuCore) : List Form :=
  [ .fixed .andAHlB,
    .unassigned,
    .fixed .andAHlC,
    .byte .bnh,
    .fixed (.callt 5),
    .fixed (.callt 13),
    .fixed (.callt 21),
    .fixed (.callt 29),
    .fixed .sknc,
    .fixed .movHlBA,
    .fixed (.callRp .bc),
    .fixed .rorA,
    .fixed .rolcA,
    .fixed .pushPsw,
    .byte .cmpsXHlOff,
    selForm core .rb1 ]

/-- Row E of the 2nd map. -/
def map2RowE (core : CpuCore) : List Form :=
  [ .fixed .orAHlB,
    .unassigned,
    .fixed .orAHlC,
    .fixed .skh,
    .fixed (.callt 6),
    .fixed (.callt 14),
    .fixed (.callt 22),
    .fixed (.callt 30),
    .fixed .skz,
    .fixed .movAHlC,
    .fixed (.callRp .de),
    .fixed .rolA,
    .fixed .retb,
    .fixed .halt,
    .fixed .rolwcAx,
    selForm core .rb2 ]

/-- Row F of the 2nd map. -/
def map2RowF (core : CpuCore) : List Form :=
  [ .fixed .xorAHlB,
    .unassigned,
    .fixed .xorAHlC,
    .fixed .sknh,
    .fixed (.callt 7),
    .fixed (.callt 15),
    .fixed (.callt 23),
    .fixed (.callt 31),
    .fixed .sknz,
    .fixed .movHlCA,
    .fixed (.callRp .hl),
    .fixed .rorcA,
    .fixed .reti,
    .fixed .stop,
    .fixed .rolwcBc,
    selForm core .rb3 ]

/-- The 2nd map. -/
def map2 (core : CpuCore) : List (List Form) :=
  [map2Row0, map2Row1, map2Row2, map2Row3, map2Row4, map2Row5, map2Row6, map2Row7] ++
  [map2Row8, map2Row9, map2RowA, map2RowB, map2RowC core, map2RowD core, map2RowE core, map2RowF core]

/-! The 3rd map, the byte after 71H (30_encoding.md R122): columns by the low nibble, the bit in the high nibble. -/

/-- The 3rd map, high nibble 0 to 7: `bit` is the nibble. -/
def map3Low (bit : Fin 8) : List Form :=
  [ .word fun addr => .set1AbsBit addr bit,
    .byte fun sa => .mov1SaddrBitCy sa bit,
    .byte fun sa => .set1SaddrBit sa bit,
    .byte fun sa => .clr1SaddrBit sa bit,
    .byte fun sa => .mov1CySaddrBit sa bit,
    .byte fun sa => .and1CySaddrBit sa bit,
    .byte fun sa => .or1CySaddrBit sa bit,
    .byte fun sa => .xor1CySaddrBit sa bit,
    .word fun addr => .clr1AbsBit addr bit,
    .byte fun sf => if sf = pswSfr then .mov1PswBitCy bit else .mov1SfrBitCy sf bit,
    .byte fun sf => if sf = pswSfr then (if bit = 7 then .ei else .set1PswBit bit) else .set1SfrBit sf bit,
    .byte fun sf => if sf = pswSfr then (if bit = 7 then .di else .clr1PswBit bit) else .clr1SfrBit sf bit,
    .byte fun sf => if sf = pswSfr then .mov1CyPswBit bit else .mov1CySfrBit sf bit,
    .byte fun sf => if sf = pswSfr then .and1CyPswBit bit else .and1CySfrBit sf bit,
    .byte fun sf => if sf = pswSfr then .or1CyPswBit bit else .or1CySfrBit sf bit,
    .byte fun sf => if sf = pswSfr then .xor1CyPswBit bit else .xor1CySfrBit sf bit ]

/-- The 3rd map, high nibble 8 to F: `bit` is the nibble less 8. -/
def map3High (bit : Fin 8) : List Form :=
  [ if bit = 0 then .fixed .set1Cy else if bit = 4 then .fixed .not1Cy else .unassigned,
    .fixed (.mov1HlBitCy bit),
    .fixed (.set1HlBit bit),
    .fixed (.clr1HlBit bit),
    .fixed (.mov1CyHlBit bit),
    .fixed (.and1CyHlBit bit),
    .fixed (.or1CyHlBit bit),
    .fixed (.xor1CyHlBit bit),
    if bit = 0 then .fixed .clr1Cy else .unassigned,
    .fixed (.mov1ABitCy bit),
    .fixed (.set1ABit bit),
    .fixed (.clr1ABit bit),
    .fixed (.mov1CyABit bit),
    .fixed (.and1CyABit bit),
    .fixed (.or1CyABit bit),
    .fixed (.xor1CyABit bit) ]

/-! The 4th map, the byte after 31H (30_encoding.md R123). -/

/-- Columns 0 to 5 of the 4th map, high nibble 0 to 7. -/
def map4Low (bit : Fin 8) : List Form :=
  [ .byteByte fun sa disp => .btclrSaddrBit sa bit disp,
    .byte (.btclrABit bit),
    .byteByte fun sa disp => .btSaddrBit sa bit disp,
    .byte (.btABit bit),
    .byteByte fun sa disp => .bfSaddrBit sa bit disp,
    .byte (.bfABit bit) ]

/-- Columns 0 to 5 of the 4th map, high nibble 8 to F: `bit` is the nibble less 8. -/
def map4High (bit : Fin 8) : List Form :=
  [ .byteByte fun sf disp => if sf = pswSfr then .btclrPswBit bit disp else .btclrSfrBit sf bit disp,
    .byte (.btclrHlBit bit),
    .byteByte fun sf disp => if sf = pswSfr then .btPswBit bit disp else .btSfrBit sf bit disp,
    .byte (.btHlBit bit),
    .byteByte fun sf disp => if sf = pswSfr then .bfPswBit bit disp else .bfSfrBit sf bit disp,
    .byte (.bfHlBit bit) ]

/-- Columns 7 to B of the 4th map, the byte shifts. -/
def map4ByteShifts (cnt : Fin 16) : List Form :=
  [ .fixed (.shlC cnt), .fixed (.shlB cnt), .fixed (.shlA cnt), .fixed (.shrA cnt), .fixed (.sarA cnt) ]

/-- Columns C to F of the 4th map, the word shifts. -/
def map4WordShifts (cnt : Fin 16) : List Form :=
  [ .fixed (.shlwBc cnt), .fixed (.shlwAx cnt), .fixed (.shrwAx cnt), .fixed (.sarwAx cnt) ]

/-- The cell of a table of rows at a byte. -/
def cellAt (rows : List (List Form)) (b : Byte) : Form :=
  (rows.getD (b.toNat / 16) []).getD (b.toNat % 16) .unassigned

/-- The cell of the 3rd map at a byte. -/
def cell3 (b : Byte) : Form :=
  let bit : Fin 8 := Fin.ofNat 8 (b.toNat / 16)
  (if b.toNat < 0x80 then map3Low bit else map3High bit).getD (b.toNat % 16) .unassigned

/-- The cell of the 4th map at a byte; a shift count of 0, and a byte shift by 8 or more, are blank (R113). -/
def cell4 (b : Byte) : Form :=
  let bit : Fin 8 := Fin.ofNat 8 (b.toNat / 16)
  let cnt : Fin 16 := Fin.ofNat 16 (b.toNat / 16)
  let col := b.toNat % 16
  if col < 6 then (if b.toNat < 0x80 then map4Low bit else map4High bit).getD col .unassigned
  else if col = 6 then .unassigned
  else if col < 12 then (if byteCount cnt then (map4ByteShifts cnt).getD (col - 7) .unassigned else .unassigned)
  else if wordCount cnt then (map4WordShifts cnt).getD (col - 12) .unassigned else .unassigned

/-! The forms that take the PREFIX byte: the `ES:` rows of table 5-8 (30_encoding.md R95, 31_addressing.md R144). -/

/-- `ES:` forms by first opcode byte, 00H to 78H. -/
def esForms1a : List (Nat × Form) :=
  [ (0x02, .word .addwAxEsAbs),
    (0x09, .word .movAEsWordB),
    (0x0D, .fixed .addAEsAtHl),
    (0x0E, .byte .addAEsHlOff),
    (0x0F, .word .addAEsAbs),
    (0x18, .word .movEsWordBA),
    (0x19, .wordByte .movEsWordBImm),
    (0x1D, .fixed .addcAEsAtHl),
    (0x1E, .byte .addcAEsHlOff),
    (0x1F, .word .addcAEsAbs),
    (0x22, .word .subwAxEsAbs),
    (0x28, .word .movEsWordCA),
    (0x29, .word .movAEsWordC),
    (0x2D, .fixed .subAEsAtHl),
    (0x2E, .byte .subAEsHlOff),
    (0x2F, .word .subAEsAbs),
    (0x38, .wordByte .movEsWordCImm),
    (0x39, .wordByte .movEsWordBcImm),
    (0x3D, .fixed .subcAEsAtHl),
    (0x3E, .byte .subcAEsHlOff),
    (0x3F, .word .subcAEsAbs),
    (0x40, .wordByte .cmpEsAbsImm),
    (0x42, .word .cmpwAxEsAbs),
    (0x48, .word .movEsWordBcA),
    (0x49, .word .movAEsWordBc),
    (0x4D, .fixed .cmpAEsAtHl),
    (0x4E, .byte .cmpAEsHlOff),
    (0x4F, .word .cmpAEsAbs),
    (0x58, .word .movwEsWordBAx),
    (0x59, .word .movwAxEsWordB),
    (0x5D, .fixed .andAEsAtHl),
    (0x5E, .byte .andAEsHlOff),
    (0x5F, .word .andAEsAbs),
    (0x68, .word .movwEsWordCAx),
    (0x69, .word .movwAxEsWordC),
    (0x6D, .fixed .orAEsAtHl),
    (0x6E, .byte .orAEsHlOff),
    (0x6F, .word .orAEsAbs),
    (0x78, .word .movwEsWordBcAx) ]

/-- `ES:` forms by first opcode byte, 79H to FFH. -/
def esForms1b : List (Nat × Form) :=
  [ (0x79, .word .movwAxEsWordBc),
    (0x7D, .fixed .xorAEsAtHl),
    (0x7E, .byte .xorAEsHlOff),
    (0x7F, .word .xorAEsAbs),
    (0x89, .fixed .movAEsAtDe),
    (0x8A, .byte .movAEsDeOff),
    (0x8B, .fixed .movAEsAtHl),
    (0x8C, .byte .movAEsHlOff),
    (0x8F, .word .movAEsAbs),
    (0x99, .fixed .movEsAtDeA),
    (0x9A, .byte .movEsDeOffA),
    (0x9B, .fixed .movEsAtHlA),
    (0x9C, .byte .movEsHlOffA),
    (0x9F, .word .movEsAbsA),
    (0xA0, .word .incEsAbs),
    (0xA2, .word .incwEsAbs),
    (0xA9, .fixed .movwAxEsAtDe),
    (0xAA, .byte .movwAxEsDeOff),
    (0xAB, .fixed .movwAxEsAtHl),
    (0xAC, .byte .movwAxEsHlOff),
    (0xAF, .word .movwAxEsAbs),
    (0xB0, .word .decEsAbs),
    (0xB2, .word .decwEsAbs),
    (0xB9, .fixed .movwEsAtDeAx),
    (0xBA, .byte .movwEsDeOffAx),
    (0xBB, .fixed .movwEsAtHlAx),
    (0xBC, .byte .movwEsHlOffAx),
    (0xBF, .word .movwEsAbsAx),
    (0xCA, .byteByte .movEsDeOffImm),
    (0xCC, .byteByte .movEsHlOffImm),
    (0xCF, .wordByte .movEsAbsImm),
    (0xD5, .word .cmp0EsAbs),
    (0xD9, .word .movXEsAbs),
    (0xDB, .word (.movwRpEsAbs .bc)),
    (0xE5, .word .onebEsAbs),
    (0xE9, .word .movBEsAbs),
    (0xEB, .word (.movwRpEsAbs .de)),
    (0xF5, .word .clrbEsAbs),
    (0xF9, .word .movCEsAbs),
    (0xFB, .word (.movwRpEsAbs .hl)) ]

/-- `ES:` forms by the byte after 61H. -/
def esForms2 : List (Nat × Form) :=
  [ (0x09, .byte .addwAxEsHlOff),
    (0x29, .byte .subwAxEsHlOff),
    (0x49, .byte .cmpwAxEsHlOff),
    (0x59, .byte .incEsHlOff),
    (0x69, .byte .decEsHlOff),
    (0x79, .byte .incwEsHlOff),
    (0x80, .fixed .addAEsHlB),
    (0x82, .fixed .addAEsHlC),
    (0x89, .byte .decwEsHlOff),
    (0x90, .fixed .addcAEsHlB),
    (0x92, .fixed .addcAEsHlC),
    (0xA0, .fixed .subAEsHlB),
    (0xA2, .fixed .subAEsHlC),
    (0xA9, .fixed .xchAEsHlC),
    (0xAA, .word .xchAEsAbs),
    (0xAC, .fixed .xchAEsAtHl),
    (0xAD, .byte .xchAEsHlOff),
    (0xAE, .fixed .xchAEsAtDe),
    (0xAF, .byte .xchAEsDeOff),
    (0xB0, .fixed .subcAEsHlB),
    (0xB2, .fixed .subcAEsHlC),
    (0xB9, .fixed .xchAEsHlB),
    (0xC0, .fixed .cmpAEsHlB),
    (0xC2, .fixed .cmpAEsHlC),
    (0xC9, .fixed .movAEsHlB),
    (0xCE, .byte .movsEsHlOffX),
    (0xD0, .fixed .andAEsHlB),
    (0xD2, .fixed .andAEsHlC),
    (0xD9, .fixed .movEsHlBA),
    (0xDE, .byte .cmpsXEsHlOff),
    (0xE0, .fixed .orAEsHlB),
    (0xE2, .fixed .orAEsHlC),
    (0xE9, .fixed .movAEsHlC),
    (0xF0, .fixed .xorAEsHlB),
    (0xF2, .fixed .xorAEsHlC),
    (0xF9, .fixed .movEsHlCA) ]

/-- `ES:` forms by the low nibble of the byte after 71H, high nibble 0 to 7. -/
def esForms3Low (bit : Fin 8) : List (Nat × Form) :=
  [ (0x0, .word fun addr => .set1EsAbsBit addr bit),
    (0x8, .word fun addr => .clr1EsAbsBit addr bit) ]

/-- `ES:` forms by the low nibble of the byte after 71H, high nibble 8 to F. -/
def esForms3High (bit : Fin 8) : List (Nat × Form) :=
  [ (0x1, .fixed (.mov1EsHlBitCy bit)),
    (0x2, .fixed (.set1EsHlBit bit)),
    (0x3, .fixed (.clr1EsHlBit bit)),
    (0x4, .fixed (.mov1CyEsHlBit bit)),
    (0x5, .fixed (.and1CyEsHlBit bit)),
    (0x6, .fixed (.or1CyEsHlBit bit)),
    (0x7, .fixed (.xor1CyEsHlBit bit)) ]

/-- `ES:` forms by the low nibble of the byte after 31H, high nibble 8 to F. -/
def esForms4High (bit : Fin 8) : List (Nat × Form) :=
  [ (0x1, .byte (.btclrEsHlBit bit)),
    (0x3, .byte (.btEsHlBit bit)),
    (0x5, .byte (.bfEsHlBit bit)) ]

/-- The instruction after the PREFIX byte, or `prefixByte` of length 1 where no `ES:` form follows (R95, D27).
`n` bytes were taken by prefix and opcode. -/
def readEsForm (core : CpuCore) (n : Nat) (f : Option Form) (rest : List Byte) : Except DecodeError (Instr × Nat) :=
  match f with
  | none => .ok (.prefixByte, 1)
  | some f => readForm core n f rest

/-- Decode what follows the PREFIX byte (30_encoding.md R95, R109 step 5). -/
def decodeEs (core : CpuCore) : List Byte → Except DecodeError (Instr × Nat)
  | [] => .error .truncated
  | b :: rest =>
    if b = 0x61 then
      match rest with
      | [] => .error .truncated
      | c :: rest => readEsForm core 3 (esForms2.lookup c.toNat) rest
    else if b = 0x71 then
      match rest with
      | [] => .error .truncated
      | c :: rest =>
        let bit : Fin 8 := Fin.ofNat 8 (c.toNat / 16)
        let forms := if c.toNat < 0x80 then esForms3Low bit else esForms3High bit
        readEsForm core 3 (forms.lookup (c.toNat % 16)) rest
    else if b = 0x31 then
      match rest with
      | [] => .error .truncated
      | c :: rest =>
        let bit : Fin 8 := Fin.ofNat 8 (c.toNat / 16)
        readEsForm core 3 (if c.toNat < 0x80 then none else (esForms4High bit).lookup (c.toNat % 16)) rest
    else readEsForm core 2 ((esForms1a ++ esForms1b).lookup b.toNat) rest

/-- Decode the instruction at the head of a list of bytes, with its length in bytes (30_encoding.md R109). -/
def decode (core : CpuCore) : List Byte → Except DecodeError (Instr × Nat)
  | [] => .error .truncated
  | b :: rest =>
    if b = 0x11 then decodeEs core rest
    else if b = 0x61 then
      match rest with
      | [] => .error .truncated
      | c :: rest => readForm core 2 (cellAt (map2 core) c) rest
    else if b = 0x71 then
      match rest with
      | [] => .error .truncated
      | c :: rest => readForm core 2 (cell3 c) rest
    else if b = 0x31 then
      match rest with
      | [] => .error .truncated
      | c :: rest => readForm core 2 (cell4 c) rest
    else readForm core 1 (cellAt map1 b) rest

/-- The bit number in bits 6-4 of an opcode byte (30_encoding.md R105). -/
def bitField (bit : Fin 8) : Byte := BitVec.ofNat 8 (16 * bit.val)

/-- The shift count in bits 7-4 of an opcode byte (30_encoding.md R106). -/
def cntField (cnt : Fin 16) : Byte := BitVec.ofNat 8 (16 * cnt.val)

/-- The second byte of CALLT with table entry `k` (30_encoding.md R104). -/
def calltByte (k : Fin 32) : Byte := BitVec.ofNat 8 (0x84 + 16 * (k.val % 8) + k.val / 8)

/-- The bytes of an instruction, lowest address first (the codes of spec/opcode_table.json). -/
def encode (i : Instr) : List Byte :=
  match i with
  | .movRImm r data => [0x50 + r.code, data]
  | .movSaddrImm sa data => [0xCD, sa, data]
  | .movSfrImm sf data => [0xCE, sf, data]
  | .movAbsImm addr data => [0xCF, lowByte addr, highByte addr, data]
  | .movEsAbsImm addr data => [0x11, 0xCF, lowByte addr, highByte addr, data]
  | .movAR r => [0x60 + r.code]
  | .movRA r => [0x70 + r.code]
  | .movASaddr sa => [0x8D, sa]
  | .movSaddrA sa => [0x9D, sa]
  | .movASfr sf => [0x8E, sf]
  | .movSfrA sf => [0x9E, sf]
  | .movAAbs addr => [0x8F, lowByte addr, highByte addr]
  | .movAEsAbs addr => [0x11, 0x8F, lowByte addr, highByte addr]
  | .movAbsA addr => [0x9F, lowByte addr, highByte addr]
  | .movEsAbsA addr => [0x11, 0x9F, lowByte addr, highByte addr]
  | .movPswImm data => [0xCE, 0xFA, data]
  | .movAPsw => [0x8E, 0xFA]
  | .movPswA => [0x9E, 0xFA]
  | .movEsImm data => [0x41, data]
  | .movEsSaddr sa => [0x61, 0xB8, sa]
  | .movAEs => [0x8E, 0xFD]
  | .movEsA => [0x9E, 0xFD]
  | .movCsImm data => [0xCE, 0xFC, data]
  | .movACs => [0x8E, 0xFC]
  | .movCsA => [0x9E, 0xFC]
  | .movAAtDe => [0x89]
  | .movAEsAtDe => [0x11, 0x89]
  | .movAtDeA => [0x99]
  | .movEsAtDeA => [0x11, 0x99]
  | .movDeOffImm off data => [0xCA, off, data]
  | .movEsDeOffImm off data => [0x11, 0xCA, off, data]
  | .movADeOff off => [0x8A, off]
  | .movAEsDeOff off => [0x11, 0x8A, off]
  | .movDeOffA off => [0x9A, off]
  | .movEsDeOffA off => [0x11, 0x9A, off]
  | .movAAtHl => [0x8B]
  | .movAEsAtHl => [0x11, 0x8B]
  | .movAtHlA => [0x9B]
  | .movEsAtHlA => [0x11, 0x9B]
  | .movHlOffImm off data => [0xCC, off, data]
  | .movEsHlOffImm off data => [0x11, 0xCC, off, data]
  | .movAHlOff off => [0x8C, off]
  | .movAEsHlOff off => [0x11, 0x8C, off]
  | .movHlOffA off => [0x9C, off]
  | .movEsHlOffA off => [0x11, 0x9C, off]
  | .movAHlB => [0x61, 0xC9]
  | .movAEsHlB => [0x11, 0x61, 0xC9]
  | .movHlBA => [0x61, 0xD9]
  | .movEsHlBA => [0x11, 0x61, 0xD9]
  | .movAHlC => [0x61, 0xE9]
  | .movAEsHlC => [0x11, 0x61, 0xE9]
  | .movHlCA => [0x61, 0xF9]
  | .movEsHlCA => [0x11, 0x61, 0xF9]
  | .movWordBImm base data => [0x19, lowByte base, highByte base, data]
  | .movEsWordBImm base data => [0x11, 0x19, lowByte base, highByte base, data]
  | .movAWordB base => [0x09, lowByte base, highByte base]
  | .movAEsWordB base => [0x11, 0x09, lowByte base, highByte base]
  | .movWordBA base => [0x18, lowByte base, highByte base]
  | .movEsWordBA base => [0x11, 0x18, lowByte base, highByte base]
  | .movWordCImm base data => [0x38, lowByte base, highByte base, data]
  | .movEsWordCImm base data => [0x11, 0x38, lowByte base, highByte base, data]
  | .movAWordC base => [0x29, lowByte base, highByte base]
  | .movAEsWordC base => [0x11, 0x29, lowByte base, highByte base]
  | .movWordCA base => [0x28, lowByte base, highByte base]
  | .movEsWordCA base => [0x11, 0x28, lowByte base, highByte base]
  | .movWordBcImm base data => [0x39, lowByte base, highByte base, data]
  | .movEsWordBcImm base data => [0x11, 0x39, lowByte base, highByte base, data]
  | .movAWordBc base => [0x49, lowByte base, highByte base]
  | .movAEsWordBc base => [0x11, 0x49, lowByte base, highByte base]
  | .movWordBcA base => [0x48, lowByte base, highByte base]
  | .movEsWordBcA base => [0x11, 0x48, lowByte base, highByte base]
  | .movSpOffImm off data => [0xC8, off, data]
  | .movASpOff off => [0x88, off]
  | .movSpOffA off => [0x98, off]
  | .movBSaddr sa => [0xE8, sa]
  | .movBAbs addr => [0xE9, lowByte addr, highByte addr]
  | .movBEsAbs addr => [0x11, 0xE9, lowByte addr, highByte addr]
  | .movCSaddr sa => [0xF8, sa]
  | .movCAbs addr => [0xF9, lowByte addr, highByte addr]
  | .movCEsAbs addr => [0x11, 0xF9, lowByte addr, highByte addr]
  | .movXSaddr sa => [0xD8, sa]
  | .movXAbs addr => [0xD9, lowByte addr, highByte addr]
  | .movXEsAbs addr => [0x11, 0xD9, lowByte addr, highByte addr]
  | .xchAX => [0x08]
  | .xchAR r => [0x61, 0x88 + r.code]
  | .xchASaddr sa => [0x61, 0xA8, sa]
  | .xchASfr sf => [0x61, 0xAB, sf]
  | .xchAAbs addr => [0x61, 0xAA, lowByte addr, highByte addr]
  | .xchAEsAbs addr => [0x11, 0x61, 0xAA, lowByte addr, highByte addr]
  | .xchAAtDe => [0x61, 0xAE]
  | .xchAEsAtDe => [0x11, 0x61, 0xAE]
  | .xchADeOff off => [0x61, 0xAF, off]
  | .xchAEsDeOff off => [0x11, 0x61, 0xAF, off]
  | .xchAAtHl => [0x61, 0xAC]
  | .xchAEsAtHl => [0x11, 0x61, 0xAC]
  | .xchAHlOff off => [0x61, 0xAD, off]
  | .xchAEsHlOff off => [0x11, 0x61, 0xAD, off]
  | .xchAHlB => [0x61, 0xB9]
  | .xchAEsHlB => [0x11, 0x61, 0xB9]
  | .xchAHlC => [0x61, 0xA9]
  | .xchAEsHlC => [0x11, 0x61, 0xA9]
  | .onebR r => [0xE0 + r.code]
  | .onebSaddr sa => [0xE4, sa]
  | .onebAbs addr => [0xE5, lowByte addr, highByte addr]
  | .onebEsAbs addr => [0x11, 0xE5, lowByte addr, highByte addr]
  | .clrbR r => [0xF0 + r.code]
  | .clrbSaddr sa => [0xF4, sa]
  | .clrbAbs addr => [0xF5, lowByte addr, highByte addr]
  | .clrbEsAbs addr => [0x11, 0xF5, lowByte addr, highByte addr]
  | .movsHlOffX off => [0x61, 0xCE, off]
  | .movsEsHlOffX off => [0x11, 0x61, 0xCE, off]
  | .movwRpImm rp data => [0x30 + 2 * rp.code, lowByte data, highByte data]
  | .movwSaddrpImm sa data => [0xC9, sa, lowByte data, highByte data]
  | .movwSfrpImm sf data => [0xCB, sf, lowByte data, highByte data]
  | .movwAxSaddrp sa => [0xAD, sa]
  | .movwSaddrpAx sa => [0xBD, sa]
  | .movwAxSfrp sf => [0xAE, sf]
  | .movwSfrpAx sf => [0xBE, sf]
  | .movwAxRp rp => [0x11 + 2 * rp.code]
  | .movwRpAx rp => [0x10 + 2 * rp.code]
  | .movwAxAbs addr => [0xAF, lowByte addr, highByte addr]
  | .movwAxEsAbs addr => [0x11, 0xAF, lowByte addr, highByte addr]
  | .movwAbsAx addr => [0xBF, lowByte addr, highByte addr]
  | .movwEsAbsAx addr => [0x11, 0xBF, lowByte addr, highByte addr]
  | .movwAxAtDe => [0xA9]
  | .movwAxEsAtDe => [0x11, 0xA9]
  | .movwAtDeAx => [0xB9]
  | .movwEsAtDeAx => [0x11, 0xB9]
  | .movwAxDeOff off => [0xAA, off]
  | .movwAxEsDeOff off => [0x11, 0xAA, off]
  | .movwDeOffAx off => [0xBA, off]
  | .movwEsDeOffAx off => [0x11, 0xBA, off]
  | .movwAxAtHl => [0xAB]
  | .movwAxEsAtHl => [0x11, 0xAB]
  | .movwAtHlAx => [0xBB]
  | .movwEsAtHlAx => [0x11, 0xBB]
  | .movwAxHlOff off => [0xAC, off]
  | .movwAxEsHlOff off => [0x11, 0xAC, off]
  | .movwHlOffAx off => [0xBC, off]
  | .movwEsHlOffAx off => [0x11, 0xBC, off]
  | .movwAxWordB base => [0x59, lowByte base, highByte base]
  | .movwAxEsWordB base => [0x11, 0x59, lowByte base, highByte base]
  | .movwWordBAx base => [0x58, lowByte base, highByte base]
  | .movwEsWordBAx base => [0x11, 0x58, lowByte base, highByte base]
  | .movwAxWordC base => [0x69, lowByte base, highByte base]
  | .movwAxEsWordC base => [0x11, 0x69, lowByte base, highByte base]
  | .movwWordCAx base => [0x68, lowByte base, highByte base]
  | .movwEsWordCAx base => [0x11, 0x68, lowByte base, highByte base]
  | .movwAxWordBc base => [0x79, lowByte base, highByte base]
  | .movwAxEsWordBc base => [0x11, 0x79, lowByte base, highByte base]
  | .movwWordBcAx base => [0x78, lowByte base, highByte base]
  | .movwEsWordBcAx base => [0x11, 0x78, lowByte base, highByte base]
  | .movwAxSpOff off => [0xA8, off]
  | .movwSpOffAx off => [0xB8, off]
  | .movwRpSaddrp rp sa => [0xCA + 16 * rp.code, sa]
  | .movwRpAbs rp addr => [0xCB + 16 * rp.code, lowByte addr, highByte addr]
  | .movwRpEsAbs rp addr => [0x11, 0xCB + 16 * rp.code, lowByte addr, highByte addr]
  | .xchwAxRp rp => [0x31 + 2 * rp.code]
  | .onewAx => [0xE6]
  | .onewBc => [0xE7]
  | .clrwAx => [0xF6]
  | .clrwBc => [0xF7]
  | .addAImm data => [0x0C, data]
  | .addSaddrImm sa data => [0x0A, sa, data]
  | .addAR r => [0x61, 0x08 + r.code]
  | .addRA r => [0x61, 0x00 + r.code]
  | .addASaddr sa => [0x0B, sa]
  | .addAAbs addr => [0x0F, lowByte addr, highByte addr]
  | .addAEsAbs addr => [0x11, 0x0F, lowByte addr, highByte addr]
  | .addAAtHl => [0x0D]
  | .addAEsAtHl => [0x11, 0x0D]
  | .addAHlOff off => [0x0E, off]
  | .addAEsHlOff off => [0x11, 0x0E, off]
  | .addAHlB => [0x61, 0x80]
  | .addAEsHlB => [0x11, 0x61, 0x80]
  | .addAHlC => [0x61, 0x82]
  | .addAEsHlC => [0x11, 0x61, 0x82]
  | .addcAImm data => [0x1C, data]
  | .addcSaddrImm sa data => [0x1A, sa, data]
  | .addcAR r => [0x61, 0x18 + r.code]
  | .addcRA r => [0x61, 0x10 + r.code]
  | .addcASaddr sa => [0x1B, sa]
  | .addcAAbs addr => [0x1F, lowByte addr, highByte addr]
  | .addcAEsAbs addr => [0x11, 0x1F, lowByte addr, highByte addr]
  | .addcAAtHl => [0x1D]
  | .addcAEsAtHl => [0x11, 0x1D]
  | .addcAHlOff off => [0x1E, off]
  | .addcAEsHlOff off => [0x11, 0x1E, off]
  | .addcAHlB => [0x61, 0x90]
  | .addcAEsHlB => [0x11, 0x61, 0x90]
  | .addcAHlC => [0x61, 0x92]
  | .addcAEsHlC => [0x11, 0x61, 0x92]
  | .subAImm data => [0x2C, data]
  | .subSaddrImm sa data => [0x2A, sa, data]
  | .subAR r => [0x61, 0x28 + r.code]
  | .subRA r => [0x61, 0x20 + r.code]
  | .subASaddr sa => [0x2B, sa]
  | .subAAbs addr => [0x2F, lowByte addr, highByte addr]
  | .subAEsAbs addr => [0x11, 0x2F, lowByte addr, highByte addr]
  | .subAAtHl => [0x2D]
  | .subAEsAtHl => [0x11, 0x2D]
  | .subAHlOff off => [0x2E, off]
  | .subAEsHlOff off => [0x11, 0x2E, off]
  | .subAHlB => [0x61, 0xA0]
  | .subAEsHlB => [0x11, 0x61, 0xA0]
  | .subAHlC => [0x61, 0xA2]
  | .subAEsHlC => [0x11, 0x61, 0xA2]
  | .subcAImm data => [0x3C, data]
  | .subcSaddrImm sa data => [0x3A, sa, data]
  | .subcAR r => [0x61, 0x38 + r.code]
  | .subcRA r => [0x61, 0x30 + r.code]
  | .subcASaddr sa => [0x3B, sa]
  | .subcAAbs addr => [0x3F, lowByte addr, highByte addr]
  | .subcAEsAbs addr => [0x11, 0x3F, lowByte addr, highByte addr]
  | .subcAAtHl => [0x3D]
  | .subcAEsAtHl => [0x11, 0x3D]
  | .subcAHlOff off => [0x3E, off]
  | .subcAEsHlOff off => [0x11, 0x3E, off]
  | .subcAHlB => [0x61, 0xB0]
  | .subcAEsHlB => [0x11, 0x61, 0xB0]
  | .subcAHlC => [0x61, 0xB2]
  | .subcAEsHlC => [0x11, 0x61, 0xB2]
  | .cmpAImm data => [0x4C, data]
  | .cmpSaddrImm sa data => [0x4A, sa, data]
  | .cmpAR r => [0x61, 0x48 + r.code]
  | .cmpRA r => [0x61, 0x40 + r.code]
  | .cmpASaddr sa => [0x4B, sa]
  | .cmpAAbs addr => [0x4F, lowByte addr, highByte addr]
  | .cmpAEsAbs addr => [0x11, 0x4F, lowByte addr, highByte addr]
  | .cmpAAtHl => [0x4D]
  | .cmpAEsAtHl => [0x11, 0x4D]
  | .cmpAHlOff off => [0x4E, off]
  | .cmpAEsHlOff off => [0x11, 0x4E, off]
  | .cmpAHlB => [0x61, 0xC0]
  | .cmpAEsHlB => [0x11, 0x61, 0xC0]
  | .cmpAHlC => [0x61, 0xC2]
  | .cmpAEsHlC => [0x11, 0x61, 0xC2]
  | .andAImm data => [0x5C, data]
  | .andSaddrImm sa data => [0x5A, sa, data]
  | .andAR r => [0x61, 0x58 + r.code]
  | .andRA r => [0x61, 0x50 + r.code]
  | .andASaddr sa => [0x5B, sa]
  | .andAAbs addr => [0x5F, lowByte addr, highByte addr]
  | .andAEsAbs addr => [0x11, 0x5F, lowByte addr, highByte addr]
  | .andAAtHl => [0x5D]
  | .andAEsAtHl => [0x11, 0x5D]
  | .andAHlOff off => [0x5E, off]
  | .andAEsHlOff off => [0x11, 0x5E, off]
  | .andAHlB => [0x61, 0xD0]
  | .andAEsHlB => [0x11, 0x61, 0xD0]
  | .andAHlC => [0x61, 0xD2]
  | .andAEsHlC => [0x11, 0x61, 0xD2]
  | .orAImm data => [0x6C, data]
  | .orSaddrImm sa data => [0x6A, sa, data]
  | .orAR r => [0x61, 0x68 + r.code]
  | .orRA r => [0x61, 0x60 + r.code]
  | .orASaddr sa => [0x6B, sa]
  | .orAAbs addr => [0x6F, lowByte addr, highByte addr]
  | .orAEsAbs addr => [0x11, 0x6F, lowByte addr, highByte addr]
  | .orAAtHl => [0x6D]
  | .orAEsAtHl => [0x11, 0x6D]
  | .orAHlOff off => [0x6E, off]
  | .orAEsHlOff off => [0x11, 0x6E, off]
  | .orAHlB => [0x61, 0xE0]
  | .orAEsHlB => [0x11, 0x61, 0xE0]
  | .orAHlC => [0x61, 0xE2]
  | .orAEsHlC => [0x11, 0x61, 0xE2]
  | .xorAImm data => [0x7C, data]
  | .xorSaddrImm sa data => [0x7A, sa, data]
  | .xorAR r => [0x61, 0x78 + r.code]
  | .xorRA r => [0x61, 0x70 + r.code]
  | .xorASaddr sa => [0x7B, sa]
  | .xorAAbs addr => [0x7F, lowByte addr, highByte addr]
  | .xorAEsAbs addr => [0x11, 0x7F, lowByte addr, highByte addr]
  | .xorAAtHl => [0x7D]
  | .xorAEsAtHl => [0x11, 0x7D]
  | .xorAHlOff off => [0x7E, off]
  | .xorAEsHlOff off => [0x11, 0x7E, off]
  | .xorAHlB => [0x61, 0xF0]
  | .xorAEsHlB => [0x11, 0x61, 0xF0]
  | .xorAHlC => [0x61, 0xF2]
  | .xorAEsHlC => [0x11, 0x61, 0xF2]
  | .cmpAbsImm addr data => [0x40, lowByte addr, highByte addr, data]
  | .cmpEsAbsImm addr data => [0x11, 0x40, lowByte addr, highByte addr, data]
  | .cmp0R r => [0xD0 + r.code]
  | .cmp0Saddr sa => [0xD4, sa]
  | .cmp0Abs addr => [0xD5, lowByte addr, highByte addr]
  | .cmp0EsAbs addr => [0x11, 0xD5, lowByte addr, highByte addr]
  | .cmpsXHlOff off => [0x61, 0xDE, off]
  | .cmpsXEsHlOff off => [0x11, 0x61, 0xDE, off]
  | .addwAxImm data => [0x04, lowByte data, highByte data]
  | .addwAxRp rp => [0x01 + 2 * rp.code]
  | .addwAxSaddrp sa => [0x06, sa]
  | .addwAxAbs addr => [0x02, lowByte addr, highByte addr]
  | .addwAxEsAbs addr => [0x11, 0x02, lowByte addr, highByte addr]
  | .addwAxHlOff off => [0x61, 0x09, off]
  | .addwAxEsHlOff off => [0x11, 0x61, 0x09, off]
  | .subwAxImm data => [0x24, lowByte data, highByte data]
  | .subwAxRp rp => [0x21 + 2 * rp.code]
  | .subwAxSaddrp sa => [0x26, sa]
  | .subwAxAbs addr => [0x22, lowByte addr, highByte addr]
  | .subwAxEsAbs addr => [0x11, 0x22, lowByte addr, highByte addr]
  | .subwAxHlOff off => [0x61, 0x29, off]
  | .subwAxEsHlOff off => [0x11, 0x61, 0x29, off]
  | .cmpwAxImm data => [0x44, lowByte data, highByte data]
  | .cmpwAxRp rp => [0x41 + 2 * rp.code]
  | .cmpwAxSaddrp sa => [0x46, sa]
  | .cmpwAxAbs addr => [0x42, lowByte addr, highByte addr]
  | .cmpwAxEsAbs addr => [0x11, 0x42, lowByte addr, highByte addr]
  | .cmpwAxHlOff off => [0x61, 0x49, off]
  | .cmpwAxEsHlOff off => [0x11, 0x61, 0x49, off]
  | .muluX => [0xD6]
  | .mulhu => [0xCE, 0xFB, 0x01]
  | .mulh => [0xCE, 0xFB, 0x02]
  | .divhu => [0xCE, 0xFB, 0x03]
  | .divwu => [0xCE, 0xFB, 0x0B]
  | .machu => [0xCE, 0xFB, 0x05]
  | .mach => [0xCE, 0xFB, 0x06]
  | .incR r => [0x80 + r.code]
  | .incSaddr sa => [0xA4, sa]
  | .incAbs addr => [0xA0, lowByte addr, highByte addr]
  | .incEsAbs addr => [0x11, 0xA0, lowByte addr, highByte addr]
  | .incHlOff off => [0x61, 0x59, off]
  | .incEsHlOff off => [0x11, 0x61, 0x59, off]
  | .decR r => [0x90 + r.code]
  | .decSaddr sa => [0xB4, sa]
  | .decAbs addr => [0xB0, lowByte addr, highByte addr]
  | .decEsAbs addr => [0x11, 0xB0, lowByte addr, highByte addr]
  | .decHlOff off => [0x61, 0x69, off]
  | .decEsHlOff off => [0x11, 0x61, 0x69, off]
  | .incwRp rp => [0xA1 + 2 * rp.code]
  | .incwSaddrp sa => [0xA6, sa]
  | .incwAbs addr => [0xA2, lowByte addr, highByte addr]
  | .incwEsAbs addr => [0x11, 0xA2, lowByte addr, highByte addr]
  | .incwHlOff off => [0x61, 0x79, off]
  | .incwEsHlOff off => [0x11, 0x61, 0x79, off]
  | .decwRp rp => [0xB1 + 2 * rp.code]
  | .decwSaddrp sa => [0xB6, sa]
  | .decwAbs addr => [0xB2, lowByte addr, highByte addr]
  | .decwEsAbs addr => [0x11, 0xB2, lowByte addr, highByte addr]
  | .decwHlOff off => [0x61, 0x89, off]
  | .decwEsHlOff off => [0x11, 0x61, 0x89, off]
  | .shrA cnt => [0x31, 0x0A + cntField cnt]
  | .shrwAx cnt => [0x31, 0x0E + cntField cnt]
  | .shlA cnt => [0x31, 0x09 + cntField cnt]
  | .shlB cnt => [0x31, 0x08 + cntField cnt]
  | .shlC cnt => [0x31, 0x07 + cntField cnt]
  | .shlwAx cnt => [0x31, 0x0D + cntField cnt]
  | .shlwBc cnt => [0x31, 0x0C + cntField cnt]
  | .sarA cnt => [0x31, 0x0B + cntField cnt]
  | .sarwAx cnt => [0x31, 0x0F + cntField cnt]
  | .rorA => [0x61, 0xDB]
  | .rolA => [0x61, 0xEB]
  | .rorcA => [0x61, 0xFB]
  | .rolcA => [0x61, 0xDC]
  | .rolwcAx => [0x61, 0xEE]
  | .rolwcBc => [0x61, 0xFE]
  | .mov1CyABit bit => [0x71, 0x8C + bitField bit]
  | .mov1ABitCy bit => [0x71, 0x89 + bitField bit]
  | .mov1CyPswBit bit => [0x71, 0x0C + bitField bit, 0xFA]
  | .mov1PswBitCy bit => [0x71, 0x09 + bitField bit, 0xFA]
  | .mov1CySaddrBit sa bit => [0x71, 0x04 + bitField bit, sa]
  | .mov1SaddrBitCy sa bit => [0x71, 0x01 + bitField bit, sa]
  | .mov1CySfrBit sf bit => [0x71, 0x0C + bitField bit, sf]
  | .mov1SfrBitCy sf bit => [0x71, 0x09 + bitField bit, sf]
  | .mov1CyHlBit bit => [0x71, 0x84 + bitField bit]
  | .mov1CyEsHlBit bit => [0x11, 0x71, 0x84 + bitField bit]
  | .mov1HlBitCy bit => [0x71, 0x81 + bitField bit]
  | .mov1EsHlBitCy bit => [0x11, 0x71, 0x81 + bitField bit]
  | .and1CyABit bit => [0x71, 0x8D + bitField bit]
  | .and1CyPswBit bit => [0x71, 0x0D + bitField bit, 0xFA]
  | .and1CySaddrBit sa bit => [0x71, 0x05 + bitField bit, sa]
  | .and1CySfrBit sf bit => [0x71, 0x0D + bitField bit, sf]
  | .and1CyHlBit bit => [0x71, 0x85 + bitField bit]
  | .and1CyEsHlBit bit => [0x11, 0x71, 0x85 + bitField bit]
  | .or1CyABit bit => [0x71, 0x8E + bitField bit]
  | .or1CyPswBit bit => [0x71, 0x0E + bitField bit, 0xFA]
  | .or1CySaddrBit sa bit => [0x71, 0x06 + bitField bit, sa]
  | .or1CySfrBit sf bit => [0x71, 0x0E + bitField bit, sf]
  | .or1CyHlBit bit => [0x71, 0x86 + bitField bit]
  | .or1CyEsHlBit bit => [0x11, 0x71, 0x86 + bitField bit]
  | .xor1CyABit bit => [0x71, 0x8F + bitField bit]
  | .xor1CyPswBit bit => [0x71, 0x0F + bitField bit, 0xFA]
  | .xor1CySaddrBit sa bit => [0x71, 0x07 + bitField bit, sa]
  | .xor1CySfrBit sf bit => [0x71, 0x0F + bitField bit, sf]
  | .xor1CyHlBit bit => [0x71, 0x87 + bitField bit]
  | .xor1CyEsHlBit bit => [0x11, 0x71, 0x87 + bitField bit]
  | .set1ABit bit => [0x71, 0x8A + bitField bit]
  | .set1PswBit bit => [0x71, 0x0A + bitField bit, 0xFA]
  | .set1AbsBit addr bit => [0x71, 0x00 + bitField bit, lowByte addr, highByte addr]
  | .set1EsAbsBit addr bit => [0x11, 0x71, 0x00 + bitField bit, lowByte addr, highByte addr]
  | .set1SaddrBit sa bit => [0x71, 0x02 + bitField bit, sa]
  | .set1SfrBit sf bit => [0x71, 0x0A + bitField bit, sf]
  | .set1HlBit bit => [0x71, 0x82 + bitField bit]
  | .set1EsHlBit bit => [0x11, 0x71, 0x82 + bitField bit]
  | .clr1ABit bit => [0x71, 0x8B + bitField bit]
  | .clr1PswBit bit => [0x71, 0x0B + bitField bit, 0xFA]
  | .clr1AbsBit addr bit => [0x71, 0x08 + bitField bit, lowByte addr, highByte addr]
  | .clr1EsAbsBit addr bit => [0x11, 0x71, 0x08 + bitField bit, lowByte addr, highByte addr]
  | .clr1SaddrBit sa bit => [0x71, 0x03 + bitField bit, sa]
  | .clr1SfrBit sf bit => [0x71, 0x0B + bitField bit, sf]
  | .clr1HlBit bit => [0x71, 0x83 + bitField bit]
  | .clr1EsHlBit bit => [0x11, 0x71, 0x83 + bitField bit]
  | .set1Cy => [0x71, 0x80]
  | .clr1Cy => [0x71, 0x88]
  | .not1Cy => [0x71, 0xC0]
  | .callRp rp => [0x61, 0xCA + 16 * rp.code]
  | .callRel16 disp => [0xFE, lowByte disp, highByte disp]
  | .callAbs16 addr => [0xFD, lowByte addr, highByte addr]
  | .callAbs20 target => [0xFC, target.extractLsb' 0 8, target.extractLsb' 8 8, 0#4 ++ target.extractLsb' 16 4]
  | .callt k => [0x61, calltByte k]
  | .brk => [0x61, 0xCC]
  | .ret => [0xD7]
  | .reti => [0x61, 0xFC]
  | .retb => [0x61, 0xEC]
  | .pushPsw => [0x61, 0xDD]
  | .pushRp rp => [0xC1 + 2 * rp.code]
  | .popPsw => [0x61, 0xCD]
  | .popRp rp => [0xC0 + 2 * rp.code]
  | .movwSpImm data => [0xCB, 0xF8, lowByte data, highByte data]
  | .movwSpAx => [0xBE, 0xF8]
  | .movwAxSp => [0xAE, 0xF8]
  | .movwRpSp rp => [0xCB + 16 * rp.code, 0xF8, 0xFF]
  | .addwSpImm data => [0x10, data]
  | .subwSpImm data => [0x20, data]
  | .brAx => [0x61, 0xCB]
  | .brRel8 disp => [0xEF, disp]
  | .brRel16 disp => [0xEE, lowByte disp, highByte disp]
  | .brAbs16 addr => [0xED, lowByte addr, highByte addr]
  | .brAbs20 target => [0xEC, target.extractLsb' 0 8, target.extractLsb' 8 8, 0#4 ++ target.extractLsb' 16 4]
  | .bc disp => [0xDC, disp]
  | .bnc disp => [0xDE, disp]
  | .bz disp => [0xDD, disp]
  | .bnz disp => [0xDF, disp]
  | .bh disp => [0x61, 0xC3, disp]
  | .bnh disp => [0x61, 0xD3, disp]
  | .btSaddrBit sa bit disp => [0x31, 0x02 + bitField bit, sa, disp]
  | .btSfrBit sf bit disp => [0x31, 0x82 + bitField bit, sf, disp]
  | .btABit bit disp => [0x31, 0x03 + bitField bit, disp]
  | .btPswBit bit disp => [0x31, 0x82 + bitField bit, 0xFA, disp]
  | .btHlBit bit disp => [0x31, 0x83 + bitField bit, disp]
  | .btEsHlBit bit disp => [0x11, 0x31, 0x83 + bitField bit, disp]
  | .bfSaddrBit sa bit disp => [0x31, 0x04 + bitField bit, sa, disp]
  | .bfSfrBit sf bit disp => [0x31, 0x84 + bitField bit, sf, disp]
  | .bfABit bit disp => [0x31, 0x05 + bitField bit, disp]
  | .bfPswBit bit disp => [0x31, 0x84 + bitField bit, 0xFA, disp]
  | .bfHlBit bit disp => [0x31, 0x85 + bitField bit, disp]
  | .bfEsHlBit bit disp => [0x11, 0x31, 0x85 + bitField bit, disp]
  | .btclrSaddrBit sa bit disp => [0x31, 0x00 + bitField bit, sa, disp]
  | .btclrSfrBit sf bit disp => [0x31, 0x80 + bitField bit, sf, disp]
  | .btclrABit bit disp => [0x31, 0x01 + bitField bit, disp]
  | .btclrPswBit bit disp => [0x31, 0x80 + bitField bit, 0xFA, disp]
  | .btclrHlBit bit disp => [0x31, 0x81 + bitField bit, disp]
  | .btclrEsHlBit bit disp => [0x11, 0x31, 0x81 + bitField bit, disp]
  | .skc => [0x61, 0xC8]
  | .sknc => [0x61, 0xD8]
  | .skz => [0x61, 0xE8]
  | .sknz => [0x61, 0xF8]
  | .skh => [0x61, 0xE3]
  | .sknh => [0x61, 0xF3]
  | .sel n => [0x61, 0xCF + 16 * n.code]
  | .nop => [0x00]
  | .ei => [0x71, 0x7A, 0xFA]
  | .di => [0x71, 0x7B, 0xFA]
  | .halt => [0x61, 0xED]
  | .stop => [0x61, 0xFD]
  | .prefixByte => [0x11]

/-- The `n` lowest bytes of a number, least significant first. -/
def bytesOfNat : Nat → Nat → List Byte
  | 0, _ => []
  | n + 1, w => BitVec.ofNat 8 w :: bytesOfNat n (w / 256)

/-- The instruction the decoder reads from the bits `w` of a table row of `nbits` bits, on the core that has every
row (S3): five bytes, the bits above `nbits` zero, the first byte the least significant. -/
def decodeTableWord (nbits w : Nat) : Option Instr :=
  match decode .s3 (bytesOfNat 5 (w % 2 ^ nbits)) with
  | .ok (i, _) => some i
  | .error _ => none

end

end Sys2Proof
end

