-- ==== Sys2Proof/Machine/Ops.lean ====
section
/-!
DEFINITION. The named operations over registers and memory: register banks, the data-access path, the stack, control
transfers, taking an exception and returning from one.

In a meaning, `s.pc` is already `nextPC`, the address after the whole instruction (00_scope.md section 5.2).
-/

namespace Sys2Proof.Machine

/-- What an operation answers: the state after it, or why it stops. -/
abbrev Result := Except Stop State

/-- The outcome of a step from the result of its operations. -/
def finish : Result → Host.Outcome State Fault Refusal
  | .ok s => .next s
  | .error (.fault f) => .fault f
  | .error (.refused r) => .refused r

/-! ## General registers (10_state.md R12-R14) -/

/-- A register of a bank. -/
def Bank.get (k : Bank) : Reg → Byte
  | .x => k.x | .a => k.a | .c => k.c | .b => k.b | .e => k.e | .d => k.d | .l => k.l | .h => k.h

/-- A bank with one register changed. -/
def Bank.set (k : Bank) (r : Reg) (v : Byte) : Bank :=
  match r with
  | .x => { k with x := v } | .a => { k with a := v } | .c => { k with c := v } | .b => { k with b := v }
  | .e => { k with e := v } | .d => { k with d := v } | .l => { k with l := v } | .h => { k with h := v }

/-- The bank of the number RBS1:RBS0. -/
def bankNo (rbs1 rbs0 : Bool) : BankNo :=
  match rbs1, rbs0 with
  | false, false => .rb0 | false, true => .rb1 | true, false => .rb2 | true, true => .rb3

/-- The bank an instruction uses: RBS = PSW.5:PSW.3, or bank 0 on S1 (10_state.md R12, R13, R23). -/
def State.rbs (s : State) : BankNo :=
  if s.cfg.core = .s1 then .rb0 else bankNo s.psw.rbs1 s.psw.rbs0

/-- The registers of a bank. -/
def State.bank (s : State) : BankNo → Bank
  | .rb0 => s.bank0 | .rb1 => s.bank1 | .rb2 => s.bank2 | .rb3 => s.bank3

/-- The state with a bank changed. -/
def State.withBank (s : State) (n : BankNo) (k : Bank) : State :=
  match n with
  | .rb0 => { s with bank0 := k } | .rb1 => { s with bank1 := k }
  | .rb2 => { s with bank2 := k } | .rb3 => { s with bank3 := k }

/-- `r[i]`, a register of the selected bank. -/
def State.reg (s : State) (r : Reg) : Byte := (s.bank s.rbs).get r

/-- `r[i] <- v`. -/
def State.setReg (s : State) (r : Reg) (v : Byte) : State := s.withBank s.rbs ((s.bank s.rbs).set r v)

/-- `rp[j]`, a register pair of the selected bank, high:low (10_state.md R14). -/
def State.pair (s : State) (p : RegPair) : Word := wordOf (s.reg p.high) (s.reg p.low)

/-- `rp[j] <- v`. -/
def State.setPair (s : State) (p : RegPair) (v : Word) : State :=
  (s.setReg p.high (highByte v)).setReg p.low (lowByte v)

/-! ## Control registers -/

/-- A bit of PSW by its number (10_state.md R20). -/
def Psw.bit (p : Psw) (i : Fin 8) : Bool :=
  match i with
  | 0 => p.cy | 1 => p.isp0 | 2 => p.isp1 | 3 => p.rbs0 | 4 => p.ac | 5 => p.rbs1 | 6 => p.z | 7 => p.ie

/-- PSW with one bit changed, by its number. -/
def Psw.setBit (p : Psw) (i : Fin 8) (v : Bool) : Psw :=
  match i with
  | 0 => { p with cy := v } | 1 => { p with isp0 := v } | 2 => { p with isp1 := v } | 3 => { p with rbs0 := v }
  | 4 => { p with ac := v } | 5 => { p with rbs1 := v } | 6 => { p with z := v } | 7 => { p with ie := v }

/-- PSW as a byte, as software reads it (10_state.md R20). -/
def Psw.toByte (p : Psw) : Byte :=
  BitVec.ofNat 8 (bitVal p.cy + 2 * bitVal p.isp0 + 4 * bitVal p.isp1 + 8 * bitVal p.rbs0 + 16 * bitVal p.ac
    + 32 * bitVal p.rbs1 + 64 * bitVal p.z + 128 * bitVal p.ie)

/-- The PSW whose byte is `v`. -/
def Psw.ofByte (v : Byte) : Psw where
  ie := bitOf v 7
  z := bitOf v 6
  rbs1 := bitOf v 5
  ac := bitOf v 4
  rbs0 := bitOf v 3
  isp1 := bitOf v 2
  isp0 := bitOf v 1
  cy := bitOf v 0

/-- A PSW as a core holds it: on S1 bits 5 and 3 stay 0 (10_state.md R20; D17). -/
def Psw.onCore (core : CpuCore) (p : Psw) : Psw :=
  if core = .s1 then { p with rbs1 := false, rbs0 := false } else p

/-- A write of PSW as a whole. -/
def State.writePsw (s : State) (v : Byte) : State := { s with psw := (Psw.ofByte v).onCore s.cfg.core }

/-- A write of one bit of PSW: only that bit changes (47_bit.md R310). -/
def State.writePswBit (s : State) (i : Fin 8) (v : Bool) : State :=
  { s with psw := (s.psw.setBit i v).onCore s.cfg.core }

/-- A write of SP: bit 0 is made 0 (10_state.md R29). -/
def State.setSp (s : State) (v : Word) : State := { s with sp := v &&& 0xFFFE }

/-- A write of ES: bits 7-4 are dropped (10_state.md R31; D18). -/
def State.writeEs (s : State) (v : Byte) : State := { s with es := v &&& 0x0F }

/-- A write of CS: bits 7-4 are dropped (10_state.md R32; D18). -/
def State.writeCs (s : State) (v : Byte) : State := { s with cs := v &&& 0x0F }

/-- A write of PMC: only bit 0 is kept, which S1 may not set (10_state.md R30; D18, D37); the mirror is unsettled for
the next instruction (70_reset_and_hazards.md R452). -/
def State.writePmc (s : State) (v : Byte) : Result :=
  if s.cfg.core = .s1 ∧ bitOf v 0 = true then .error (.refused .pmcOnS1)
  else .ok { s with pmc := v &&& 0x01, pmcDelay := 2 }

/-- Add an event to the history of the product's devices. -/
def State.log (s : State) (e : DevEvent) : State := { s with devLog := s.devLog ++ [e] }

/-- A free byte of this step. -/
def State.freeByte (s : State) (u : FreeUse) : Byte := Config.freeByte s.draws u

/-- A free bit of this step. -/
def State.freeBit (s : State) (u : FreeUse) : Bool := Config.freeBit s.draws u

/-! ## The data-access path (20_memory.md R51) -/

/-- The bytes of SFR space that are CPU registers (10_state.md R33, R34). -/
inductive CpuSfr where
  | spl | sph | psw | cs | es | pmc
  /-- byte `k` of MACR, on S3 -/
  | macr (k : Fin 4)
  deriving DecidableEq, Repr

/-- What stands at a data address. -/
inductive Place where
  /-- a product SFR or 2nd SFR, the `Sfr` parameter -/
  | device (a : Nat)
  /-- a CPU register -/
  | cpu (r : CpuSfr)
  /-- a general register -/
  | gpr (n : BankNo) (r : Reg)
  /-- a byte of internal RAM -/
  | ram (a : Nat)
  /-- a byte of data flash -/
  | dataFlash (a : Nat)
  /-- a mirrored byte: the code-flash address it shows, and the address in the window -/
  | mirror (src a : Nat)
  /-- a byte of code flash -/
  | codeFlash (a : Nat)
  /-- an unusable or unimplemented area -/
  | unusable
  deriving DecidableEq, Repr

/-- The CPU register at an address of the SFR area (10_state.md R33; MACR on S3 only, R34). -/
def cpuSfrAt (core : CpuCore) (a : Nat) : Option CpuSfr :=
  if a = 0xFFFF8 then some .spl
  else if a = 0xFFFF9 then some .sph
  else if a = 0xFFFFA then some .psw
  else if a = 0xFFFFC then some .cs
  else if a = 0xFFFFD then some .es
  else if a = 0xFFFFE then some .pmc
  else if core = .s3 ∧ 0xFFFF0 ≤ a ∧ a ≤ 0xFFFF3 then some (.macr (Fin.ofNat 4 (a - 0xFFFF0)))
  else none

/-- The bank of an address of the register area: RegAddr(b, i) = FFEF8H - 8 b + i (10_state.md R13). -/
def bankAt (a : Nat) : BankNo :=
  if 0xFFEF8 ≤ a then .rb0 else if 0xFFEF0 ≤ a then .rb1 else if 0xFFEE8 ≤ a then .rb2 else .rb3

/-- The address lies in one of the inclusive ranges. -/
def inRanges (l : List (Nat × Nat)) (a : Nat) : Bool := l.any fun r => decide (r.1 ≤ a) && decide (a ≤ r.2)

/-- The code-flash address that a mirrored address shows (20_memory.md R62). -/
def mirrorSource (s : State) (a : Nat) : Nat :=
  if s.cfg.core = .s1 then a - 0xF8000 else (if bitOf s.pmc 0 then 0x10000 else 0) + (a - 0xF0000)

/-- The address is one of internal RAM, the register area included (20_memory.md R63). -/
def inRam (c : Config) (a : Nat) : Bool := decide (c.ramBase ≤ a) && decide (a ≤ 0xFFEFF)

/-- Code may be fetched from an address: implemented code flash, and internal RAM below the register area
(20_memory.md R52, R56; 10_state.md R16; D19). -/
def fetchable (c : Config) (a : Nat) : Bool :=
  (decide (a ≤ c.flashTop) && decide (a ≤ 0xEFFFF)) || (inRam c a && decide (a < 0xFFEE0))

/-- What stands at a data address, resolved in the order of 20_memory.md R51. In the instruction right after a PMC write
the mirror answers wherever its source lies (70_reset_and_hazards.md R452; D35, log 14). -/
def place (s : State) (addr : Addr) : Place :=
  let a := addr.toNat
  if 0xFFF00 ≤ a then
    match cpuSfrAt s.cfg.core a with
    | some r => .cpu r
    | none => .device a
  else if inRam s.cfg a then
    if a < 0xFFEE0 then .ram a
    else if s.cfg.core = .s1 ∧ a < 0xFFEF8 then .unusable
    else .gpr (bankAt a) (Reg.ofCode a)
  else if 0xF0000 ≤ a ∧ a < 0xF0800 then .device a
  else if inRanges s.cfg.dflash.toList a then .dataFlash a
  else if inRanges s.cfg.mirror a then
    (if s.pmcDelay = 1 ∨ mirrorSource s a ≤ s.cfg.flashTop then .mirror (mirrorSource s a) a else .unusable)
  else if a ≤ s.cfg.flashTop then .codeFlash a
  else .unusable

/-- Read a byte of a CPU register. -/
def State.readCpu (s : State) : CpuSfr → Byte
  | .spl => lowByte s.sp
  | .sph => highByte s.sp
  | .psw => s.psw.toByte
  | .cs => s.cs
  | .es => s.es
  | .pmc => s.pmc
  | .macr k => s.macr.extractLsb' (8 * k.val) 8

/-- MACR with byte `k` changed. -/
def putMacrByte (m : DWord) (k : Fin 4) (v : Byte) : DWord :=
  (m &&& ~~~ (0xFF#32 <<< (8 * k.val))) ||| (v.setWidth 32 <<< (8 * k.val))

/-- Write a byte of a CPU register. -/
def State.writeCpu (s : State) (r : CpuSfr) (v : Byte) : Result :=
  match r with
  | .spl => .ok (s.setSp (wordOf (highByte s.sp) v))
  | .sph => .ok (s.setSp (wordOf v (lowByte s.sp)))
  | .psw => .ok (s.writePsw v)
  | .cs => .ok (s.writeCs v)
  | .es => .ok (s.writeEs v)
  | .pmc => s.writePmc v
  | .macr k => .ok { s with macr := putMacrByte s.macr k v }

/-- A byte read through the mirror: any value in the instruction right after a PMC write (70_reset_and_hazards.md R452;
D35). -/
def mirrorByte (s : State) (src a : Nat) : Byte :=
  if s.pmcDelay = 1 then s.freeByte (.mirrorByte a) else s.mem.read src

/-- `MemRead(addr, 1)`, the value (20_memory.md R51). -/
def readByte (s : State) (addr : Addr) : Except Stop Byte :=
  match place s addr with
  | .device a => .ok (Config.sfrByte s.devLog a)
  | .cpu r => .ok (s.readCpu r)
  | .gpr n r => .ok ((s.bank n).get r)
  | .ram a => .ok (s.mem.read a)
  | .dataFlash a => .ok (s.mem.read a)
  | .mirror src a => .ok (mirrorByte s src a)
  | .codeFlash a => .ok (s.mem.read a)
  | .unusable => .error (.fault .unusableArea)

/-- What `MemRead(addr, 1)` leaves behind: a product SFR sees the read (20_memory.md R69). -/
def touchByte (s : State) (addr : Addr) : State :=
  match place s addr with
  | .device a => s.log (.read8 a)
  | _ => s

/-- `MemWrite(addr, 1, v)` (20_memory.md R51, R70). -/
def writeByte (s : State) (addr : Addr) (v : Byte) : Result :=
  match place s addr with
  | .device a => .ok (s.log (.write8 a v))
  | .cpu r => s.writeCpu r v
  | .gpr n r => .ok (s.withBank n ((s.bank n).set r v))
  | .ram a => .ok { s with mem := s.mem.write a v }
  | .dataFlash _ => .error (.refused .flashStore)
  | .mirror _ _ => .error (.refused .flashStore)
  | .codeFlash _ => .error (.refused .flashStore)
  | .unusable => .error (.fault .unusableArea)

/-- The two bytes of a word access are one 16-bit access of a product SFR (D30). -/
def deviceWord (s : State) (addr : Addr) : Option Nat :=
  match place s (evenAddr addr), place s (evenAddr addr + 1) with
  | .device a, .device _ => some a
  | _, _ => none

/-- `MemRead(addr, 2)`, the value: bit 0 of the address is taken as 0 (20_memory.md R50, R53). -/
def readWord (s : State) (addr : Addr) : Except Stop Word :=
  match deviceWord s addr with
  | some a => .ok (Config.sfrWord s.devLog a)
  | none => do
    let lo ← readByte s (evenAddr addr)
    let hi ← readByte s (evenAddr addr + 1)
    .ok (wordOf hi lo)

/-- What `MemRead(addr, 2)` leaves behind. -/
def touchWord (s : State) (addr : Addr) : State :=
  match deviceWord s addr with
  | some a => s.log (.read16 a)
  | none => touchByte (touchByte s (evenAddr addr)) (evenAddr addr + 1)

/-- `MemWrite(addr, 2, v)`: bit 0 of the address is taken as 0, the low byte lies at the even address
(20_memory.md R50, R53). -/
def writeWord (s : State) (addr : Addr) (v : Word) : Result :=
  match deviceWord s addr with
  | some a => .ok (s.log (.write16 a v))
  | none => do
    let t ← writeByte s (evenAddr addr) (lowByte v)
    writeByte t (evenAddr addr + 1) (highByte v)

/-! ## The stack (48_call_return_stack.md R330) -/

/-- Where a stack access lands. -/
inductive StackPlace where
  /-- a byte of internal RAM -/
  | ram (a : Nat)
  /-- the general-register area, where no stack may be (10_state.md R16) -/
  | registers
  /-- outside internal RAM: writes are dropped, reads give any value (10_state.md R29; D11) -/
  | outside (a : Nat)
  deriving DecidableEq, Repr

/-- The place of the stack byte with 16-bit offset `off`, at address F0000H + off: each byte is resolved by its own
address (48_call_return_stack.md R330). DESIGN CHOICE (log 43), unsafe: so too for [SP+byte] where SP itself lies outside
internal RAM and SP+byte in RAM below FFEE0H, a use that is prohibited and that 31_addressing.md R146 does not treat: an
ordinary RAM access. -/
def stackPlace (c : Config) (off : Word) : StackPlace :=
  let a := 0xF0000 + off.toNat
  if inRam c a then
    if a < 0xFFEE0 then .ram a
    else if c.core = .s1 ∧ a < 0xFFEF8 then .outside a
    else .registers
  else .outside a

/-- Read a stack byte. -/
def stackRead (s : State) (off : Word) : Except Stop Byte :=
  match stackPlace s.cfg off with
  | .ram a => .ok (s.mem.read a)
  | .registers => .error (.refused .registerAreaStack)
  | .outside a => .ok (s.freeByte (.stackByte a))

/-- Write a stack byte. -/
def stackWrite (s : State) (off : Word) (v : Byte) : Result :=
  match stackPlace s.cfg off with
  | .ram a => .ok { s with mem := s.mem.write a v }
  | .registers => .error (.refused .registerAreaStack)
  | .outside _ => .ok s

/-- Write the word `hi:lo` at stack offsets `off + 1` and `off`. -/
def stackWriteWord (s : State) (off : Word) (hi lo : Byte) : Result := do
  let t ← stackWrite s (off + 1) hi
  stackWrite t off lo

/-- Save two bytes: Stk(-1) and Stk(-2), then SP - 2 (R330). -/
def push (s : State) (hi lo : Byte) : Result := do
  let t ← stackWriteWord s (s.sp - 2) hi lo
  .ok (t.setSp (s.sp - 2))

/-- Save a return address and a byte above it: Stk(-1) is `top`, Stk(-2) is 0000B:ret[19:16], Stk(-3) and Stk(-4) the
low word; then SP - 4 (R330; D34). -/
def pushFrame (s : State) (top : Byte) (ret : Addr) : Result := do
  let t ← stackWriteWord s (s.sp - 2) top (0#4 ++ ret.extractLsb' 16 4)
  let u ← stackWriteWord t (s.sp - 4) (ret.extractLsb' 8 8) (ret.extractLsb' 0 8)
  .ok (u.setSp (s.sp - 4))

/-- The return address in a frame: Stk(+2)[3:0] : Stk(+1) : Stk(0) (R330; D34). -/
def frameAddr (s : State) : Except Stop Addr := do
  let b0 ← stackRead s s.sp
  let b1 ← stackRead s (s.sp + 1)
  let b2 ← stackRead s (s.sp + 2)
  .ok (addrOf (b2.extractLsb' 0 4) (wordOf b1 b0))

/-! ## Control transfers -/

/-- A taken control transfer: fetch starts afresh at the target (20_memory.md R75, 70_reset_and_hazards.md R456). -/
def jump (s : State) (target : Addr) : State := { s with pc := target, queue := s.mem }

/-- A 16-bit entry of the vector or CALLT table, read from the program space (20_memory.md R57, R59). -/
def programWord (s : State) (a : Nat) : Word := wordOf (s.mem.read (a + 1)) (s.mem.read a)

/-- The code address that a table entry holds, 0H:word. -/
def tableTarget (s : State) (a : Nat) : Addr := addrOf 0 (programWord s a)

/-- A taken relative transfer by a 20-bit displacement from nextPC (31_addressing.md R131); refused from RAM to outside
RAM (49_branch_skip_control.md R361; D20). The byte before nextPC is the instruction's own. -/
def jumpRelative (s : State) (disp : Addr) : Result :=
  if inRam s.cfg (s.pc - 1).toNat ∧ inRam s.cfg (s.pc + disp).toNat = false
  then .error (.refused .relativeBranchFromRam)
  else .ok (jump s (s.pc + disp))

/-- Call a subroutine: the CALL frame holds nextPC below a 00H byte (48_call_return_stack.md R330, R331). -/
def call (s : State) (target : Addr) : Result := do
  let t ← pushFrame s 0x00 s.pc
  .ok (jump t target)

/-- Call a subroutine by a 20-bit displacement from nextPC (48_call_return_stack.md R331). -/
def callRelative (s : State) (disp : Addr) : Result := do
  let _ ← jumpRelative s disp
  call s (s.pc + disp)

/-- The target of CALL rp and BR AX, CS[3:0]:rp (31_addressing.md R134). -/
def registerTarget (s : State) (p : RegPair) : Addr := addrOf (s.cs.extractLsb' 0 4) (s.pair p)

/-- Return from a subroutine: PC from the frame, SP + 4 (48_call_return_stack.md R333). -/
def returnFromCall (s : State) : Result := do
  let target ← frameAddr s
  .ok (jump (s.setSp (s.sp + 4)) target)

/-- Restore a pair: Stk(0) is its low byte, Stk(+1) its high byte; SP + 2 (R330, R337). -/
def popPair (s : State) (p : RegPair) : Result := do
  let lo ← stackRead s s.sp
  let hi ← stackRead s (s.sp + 1)
  .ok ((s.setPair p (wordOf hi lo)).setSp (s.sp + 2))

/-- Restore PSW from Stk(+1); Stk(0) is not used; SP + 2 (R330, R337). -/
def popPsw (s : State) : Result := do
  let v ← stackRead s (s.sp + 1)
  .ok ((s.writePsw v).setSp (s.sp + 2))

/-! ## Taking an exception and returning from one -/

/-- Take an exception (60_exceptions.md R406, 48_call_return_stack.md R338): the frame holds PSW and the address of the
next instruction, IE becomes 0, ISP becomes `isp` where one is given, and PC comes from the vector table entry. -/
def takeException (s : State) (vector : Nat) (isp : Option (BitVec 2)) : Result := do
  let t ← pushFrame s s.psw.toByte s.pc
  let psw := match isp with
    | none => s.psw
    | some p => { s.psw with isp1 := p.getLsbD 1, isp0 := p.getLsbD 0 }
  .ok (jump { t with psw := { psw with ie := false }, inhibit := false, skip := false } (tableTarget s vector))

/-- Return from an exception (60_exceptions.md R410, 48_call_return_stack.md R334, R335): PC and the whole PSW come back
from the frame, SP + 4, and no interrupt is accepted before the next instruction. -/
def returnFromException (s : State) : Result := do
  let target ← frameAddr s
  let psw ← stackRead s (s.sp + 3)
  .ok (jump { (s.writePsw psw).setSp (s.sp + 4) with inhibit := true } target)

end Sys2Proof.Machine
end

