-- ==== Sys2Proof/Machine/Flags.lean ====
section
/-!
DEFINITION. The flags of PSW (10_state.md R20-R26) and every flag computation the spec gives. Sums and differences are
computed exactly, on natural numbers and integers, and narrowed at the end.
-/

namespace Sys2Proof.Machine

/-- CY, PSW bit 0. -/
def State.cy (s : State) : Bool := s.psw.cy
/-- AC, PSW bit 4. -/
def State.ac (s : State) : Bool := s.psw.ac
/-- Z, PSW bit 6. -/
def State.z (s : State) : Bool := s.psw.z
/-- IE, PSW bit 7. -/
def State.ie (s : State) : Bool := s.psw.ie
/-- ISP1:ISP0, PSW bits 2 and 1. -/
def State.isp (s : State) : BitVec 2 := BitVec.ofNat 2 (2 * bitVal s.psw.isp1 + bitVal s.psw.isp0)

/-- `CY <- v`. -/
def State.setCy (s : State) (v : Bool) : State := { s with psw := { s.psw with cy := v } }
/-- `AC <- v`. -/
def State.setAc (s : State) (v : Bool) : State := { s with psw := { s.psw with ac := v } }
/-- `Z <- v`. -/
def State.setZ (s : State) (v : Bool) : State := { s with psw := { s.psw with z := v } }
/-- The three result flags. -/
structure Flags where
  z : Bool
  ac : Bool
  cy : Bool
  deriving DecidableEq, Repr

/-- `Z, AC, CY <- f`; the other bits of PSW stay. -/
def State.setFlags (s : State) (f : Flags) : State := ((s.setZ f.z).setAc f.ac).setCy f.cy

/-- The 8-bit result and the three flags of an addition or subtraction. -/
structure Alu8 where
  res : Byte
  flags : Flags
  deriving DecidableEq, Repr

/-- `add8(a,b,c)` of 42_alu8.md R220. -/
def add8 (a b : Byte) (c : Bool) : Alu8 :=
  let s := a.toNat + b.toNat + bitVal c
  { res := BitVec.ofNat 8 s
    flags :=
      { z := s % 256 == 0
        ac := decide (16 ≤ a.toNat % 16 + b.toNat % 16 + bitVal c)
        cy := decide (256 ≤ s) } }

/-- `sub8(a,b,c)` of 42_alu8.md R220. -/
def sub8 (a b : Byte) (c : Bool) : Alu8 :=
  let d : Int := (a.toNat : Int) - b.toNat - bitVal c
  { res := BitVec.ofInt 8 d
    flags :=
      { z := d % 256 == 0
        ac := decide (((a.toNat % 16 : Nat) : Int) - ((b.toNat % 16 : Nat) : Int) - bitVal c < 0)
        cy := decide (d < 0) } }

/-- The result, Z and AC of INC and DEC, which leave CY alone. -/
structure Step8 where
  res : Byte
  z : Bool
  ac : Bool
  deriving DecidableEq, Repr

/-- INC (45_incdec.md R280). -/
def inc8 (v : Byte) : Step8 := { res := v + 1, z := v + 1 == 0, ac := v.toNat % 16 == 15 }

/-- DEC (45_incdec.md R281). -/
def dec8 (v : Byte) : Step8 := { res := v - 1, z := v - 1 == 0, ac := v.toNat % 16 == 0 }

/-- CMP0 (42_alu8.md R229). -/
def cmp0Flags (v : Byte) : Flags := { z := v == 0, ac := false, cy := false }

/-- CMPS of X with the memory byte (42_alu8.md R230); CY is not the borrow. -/
def cmpsFlags (a x m : Byte) : Flags :=
  let d := sub8 x m false
  { z := d.res == 0, ac := d.flags.ac, cy := d.res != 0 || a == 0 || x == 0 }

/-- The 16-bit result, Z and CY of an operation. -/
structure Alu16 where
  res : Word
  z : Bool
  cy : Bool
  deriving DecidableEq, Repr

/-- `add16(a,b)` of 43_alu16.md R250. -/
def add16 (a b : Word) : Alu16 :=
  let s := a.toNat + b.toNat
  { res := BitVec.ofNat 16 s, z := s % 65536 == 0, cy := decide (65536 ≤ s) }

/-- `sub16(a,b)` of 43_alu16.md R250. -/
def sub16 (a b : Word) : Alu16 :=
  let d : Int := (a.toNat : Int) - b.toNat
  { res := BitVec.ofInt 16 d, z := d % 65536 == 0, cy := decide (d < 0) }

/-- A shifted or rotated value and the bit that left it last. -/
structure Shifted (w : Nat) where
  res : BitVec w
  cy : Bool
  deriving DecidableEq, Repr

/-- SHR, SHRW: zeros enter at the top (46_shift_rotate.md R291, R292). -/
def shiftRight {w : Nat} (v : BitVec w) (cnt : Nat) : Shifted w := { res := v >>> cnt, cy := v.getLsbD (cnt - 1) }

/-- SHL, SHLW: zeros enter at the bottom (46_shift_rotate.md R293, R294). -/
def shiftLeft {w : Nat} (v : BitVec w) (cnt : Nat) : Shifted w := { res := v <<< cnt, cy := v.getLsbD (w - cnt) }

/-- SAR, SARW: the sign bit is replicated (46_shift_rotate.md R295, R296). -/
def shiftArith {w : Nat} (v : BitVec w) (cnt : Nat) : Shifted w :=
  { res := v.sshiftRight cnt, cy := v.getLsbD (cnt - 1) }

/-- The value rotated right by one bit, `c` entering at the top (46_shift_rotate.md R297, R299). -/
def rotateRightIn {w : Nat} (v : BitVec w) (c : Bool) : Shifted w :=
  { res := v >>> 1 ||| (BitVec.ofNat w (bitVal c) <<< (w - 1)), cy := v.getLsbD 0 }

/-- The value rotated left by one bit, `c` entering at the bottom (46_shift_rotate.md R298, R300, R301). -/
def rotateLeftIn {w : Nat} (v : BitVec w) (c : Bool) : Shifted w :=
  { res := v <<< 1 ||| BitVec.ofNat w (bitVal c), cy := v.getLsbD (w - 1) }

/-- MACHU (44_muldiv.md R266): the new MACR and CY. -/
def macUnsigned (m : DWord) (a b : Word) : DWord × Bool :=
  let s := m.toNat + a.toNat * b.toNat
  (BitVec.ofNat 32 s, decide (2 ^ 32 ≤ s))

/-- MACH (44_muldiv.md R267): the new MACR and CY, signed overflow. -/
def macSigned (m : DWord) (a b : Word) : DWord × Bool :=
  let s := m.toInt + a.toInt * b.toInt
  (BitVec.ofInt 32 s, decide (0x7FFFFFFF < s) || decide (s < -0x80000000))

end Sys2Proof.Machine
end

