-- ==== Sys2Proof/Machine/Operands.lean ====
section
/-!
DEFINITION. The operand forms of 31_addressing.md: the address each denotes, its value, and a write to it.

An operand's address is computed from the state at the start of the instruction (R148). Reading has a value, and apart
from it a touched state, in which a product SFR has seen the read.
-/

namespace Sys2Proof.Machine

/-- Where bits 19-16 of a data address come from (31_addressing.md R144). -/
inductive Segment where
  /-- FH: a form without `ES:` -/
  | f
  /-- ES[3:0]: a form with `ES:` -/
  | es
  deriving DecidableEq, Repr

/-- The memory operand forms. -/
inductive MemOp where
  /-- `saddr`, `saddrp` (R138) -/
  | saddr (f : Byte)
  /-- `sfr`, `sfrp`, PSW, CS, ES, SP (R139) -/
  | sfr (f : Byte)
  /-- `!addr16`, `ES:!addr16` (R137) -/
  | abs (seg : Segment) (addr : Word)
  /-- `[DE]`, `[HL]` and their `ES:` forms (R140) -/
  | indirect (seg : Segment) (p : RegPair)
  /-- `[DE+byte]`, `[HL+byte]` and their `ES:` forms (R141) -/
  | based (seg : Segment) (p : RegPair) (off : Byte)
  /-- `[HL+B]`, `[HL+C]` and their `ES:` forms (R142) -/
  | indexed (seg : Segment) (r : Reg)
  /-- `word[B]`, `word[C]` and their `ES:` forms (R141) -/
  | wordReg (seg : Segment) (base : Word) (r : Reg)
  /-- `word[BC]`, `ES:word[BC]` (R141) -/
  | wordBc (seg : Segment) (base : Word)
  /-- `[SP+byte]` (R141, R146) -/
  | spOff (off : Byte)
  deriving DecidableEq, Repr

/-- A memory operand's address: on the data path, or an offset of stack space. -/
inductive Ea where
  | data (a : Addr)
  | stack (off : Word)
  deriving DecidableEq, Repr

/-- `saddr_addr` (30_encoding.md R99). PRESUMED by the spec itself (93_implementation_defined.md G1; log 22). -/
def saddrAddr (f : Byte) : Addr := if f.toNat < 0x20 then 0xFFF00 + f.setWidth 20 else 0xFFE00 + f.setWidth 20

/-- `sfr_addr` (30_encoding.md R100). -/
def sfrAddr (f : Byte) : Addr := 0xFFF00 + f.setWidth 20

/-- Bits 19-16 of a data address. -/
def segBits (s : State) : Segment → BitVec 4
  | .f => 0xF
  | .es => s.es.extractLsb' 0 4

/-- A based address: the sum may not exceed FFFFH (31_addressing.md R145; D10). -/
def sumAddr (s : State) (seg : Segment) (base off : Word) : Except Stop Ea :=
  if base.toNat + off.toNat ≤ 0xFFFF then .ok (.data (addrOf (segBits s seg) (base + off)))
  else .error (.refused .addressSumOverflow)

/-- The address of a memory operand (31_addressing.md R137-R142, R146). -/
def memAddr (s : State) : MemOp → Except Stop Ea
  | .saddr f => .ok (.data (saddrAddr f))
  | .sfr f => .ok (.data (sfrAddr f))
  | .abs seg addr => .ok (.data (addrOf (segBits s seg) addr))
  | .indirect seg p => .ok (.data (addrOf (segBits s seg) (s.pair p)))
  | .based seg p off => sumAddr s seg (s.pair p) (off.setWidth 16)
  | .indexed seg r => sumAddr s seg (s.pair .hl) ((s.reg r).setWidth 16)
  | .wordReg seg base r => sumAddr s seg base ((s.reg r).setWidth 16)
  | .wordBc seg base => sumAddr s seg base (s.pair .bc)
  | .spOff off => .ok (.stack (s.sp + off.setWidth 16))

/-! ## Bytes -/

/-- The byte at an address. -/
def loadByte (s : State) : Ea → Except Stop Byte
  | .data a => readByte s a
  | .stack off => stackRead s off

/-- The state after the byte at an address was read. -/
def touchedByte (s : State) : Ea → State
  | .data a => touchByte s a
  | .stack _ => s

/-- Store a byte at an address. -/
def storeByte (s : State) (v : Byte) : Ea → Result
  | .data a => writeByte s a v
  | .stack off => stackWrite s off v

/-- An 8-bit operand that can be a destination. -/
inductive Loc8 where
  | reg (r : Reg)
  | mem (m : MemOp)
  deriving DecidableEq, Repr

/-- An 8-bit source operand. -/
inductive Src8 where
  | imm (v : Byte)
  | loc (l : Loc8)
  deriving DecidableEq, Repr

/-- The value of an 8-bit location. -/
def Loc8.value (s : State) : Loc8 → Except Stop Byte
  | .reg r => .ok (s.reg r)
  | .mem m => do loadByte s (← memAddr s m)

/-- The state after an 8-bit location was read. -/
def Loc8.touched (s : State) : Loc8 → State
  | .reg _ => s
  | .mem m =>
    match memAddr s m with
    | .ok ea => touchedByte s ea
    | .error _ => s

/-- Write an 8-bit location. -/
def Loc8.write (s : State) (v : Byte) : Loc8 → Result
  | .reg r => .ok (s.setReg r v)
  | .mem m => do storeByte s v (← memAddr s m)

/-- The value of an 8-bit source. -/
def Src8.value (s : State) : Src8 → Except Stop Byte
  | .imm v => .ok v
  | .loc l => l.value s

/-- The state after an 8-bit source was read. -/
def Src8.touched (s : State) : Src8 → State
  | .imm _ => s
  | .loc l => l.touched s

/-! ## Words -/

/-- The word at an address; bit 0 of the address is taken as 0 (20_memory.md R53). -/
def loadWord (s : State) : Ea → Except Stop Word
  | .data a => readWord s a
  | .stack off => do
    let lo ← stackRead s (off &&& 0xFFFE)
    let hi ← stackRead s ((off &&& 0xFFFE) + 1)
    .ok (wordOf hi lo)

/-- The state after the word at an address was read. -/
def touchedWord (s : State) : Ea → State
  | .data a => touchWord s a
  | .stack _ => s

/-- Store a word at an address; bit 0 of the address is taken as 0 (20_memory.md R53). -/
def storeWord (s : State) (v : Word) : Ea → Result
  | .data a => writeWord s a v
  | .stack off => stackWriteWord s (off &&& 0xFFFE) (highByte v) (lowByte v)

/-- A 16-bit operand that can be a destination. -/
inductive Loc16 where
  | pair (p : RegPair)
  | mem (m : MemOp)
  deriving DecidableEq, Repr

/-- A 16-bit source operand. -/
inductive Src16 where
  | imm (v : Word)
  | loc (l : Loc16)
  deriving DecidableEq, Repr

/-- The value of a 16-bit location. -/
def Loc16.value (s : State) : Loc16 → Except Stop Word
  | .pair p => .ok (s.pair p)
  | .mem m => do loadWord s (← memAddr s m)

/-- The state after a 16-bit location was read. -/
def Loc16.touched (s : State) : Loc16 → State
  | .pair _ => s
  | .mem m =>
    match memAddr s m with
    | .ok ea => touchedWord s ea
    | .error _ => s

/-- Write a 16-bit location. -/
def Loc16.write (s : State) (v : Word) : Loc16 → Result
  | .pair p => .ok (s.setPair p v)
  | .mem m => do storeWord s v (← memAddr s m)

/-- The value of a 16-bit source. -/
def Src16.value (s : State) : Src16 → Except Stop Word
  | .imm v => .ok v
  | .loc l => l.value s

/-- The state after a 16-bit source was read. -/
def Src16.touched (s : State) : Src16 → State
  | .imm _ => s
  | .loc l => l.touched s

/-! ## The operand forms by the names of table 5-1 -/

/-- The register A as a location. -/
def accA : Loc8 := .reg .a
/-- The pair AX as a location. -/
def accAX : Loc16 := .pair .ax
/-- PSW as an operand: the `sfr` form at FFFFAH (30_encoding.md R114). -/
def opPsw : MemOp := .sfr pswSfr
/-- CS as an operand: the `sfr` form at FFFFCH. -/
def opCs : MemOp := .sfr csSfr
/-- ES as an operand: the `sfr` form at FFFFDH. -/
def opEs : MemOp := .sfr esSfr
/-- SP as a 16-bit operand: the `sfrp` form at FFFF8H. -/
def opSp : MemOp := .sfr spSfr
/-- SP as MOVW BC/DE/HL,SP code it: the `!addr16` form at FFFF8H (30_encoding.md R114). -/
def opSpAbs : MemOp := .abs .f spAddr16

end Sys2Proof.Machine
end

