-- ==== Sys2Proof/Machine/Actions.lean ====
section
/-!
DEFINITION. What the instruction families share: each operation once, over operands and flag functions. Source operands
are read before the destination is written (40_transfer8.md R170); a destination is written before the flags, so a flag
rule decides the flags it sets where the destination is PSW itself (log 27), and the stored byte those it leaves
unchanged (log 45).
-/

namespace Sys2Proof.Machine

/-- The next instruction comes before any interrupt (10_state.md R36). -/
def holdInterrupts (s : State) : State := { s with inhibit := true }

/-- The result with interrupts held until after the next instruction. -/
def holding (r : Result) : Result := r.map holdInterrupts

/-! ## Transfers (40_transfer8.md, 41_transfer16.md) -/

/-- `dst <- src`, 8 bits (R171). -/
def move8 (dst : Loc8) (src : Src8) (s : State) : Result := do
  let v ← src.value s
  dst.write (src.touched s) v

/-- `dst <- src`, 16 bits (R201). -/
def move16 (dst : Loc16) (src : Src16) (s : State) : Result := do
  let v ← src.value s
  dst.write (src.touched s) v

/-- Exchange A with a register of the same bank (R174). -/
def exchangeReg (r : Reg) (s : State) : Result :=
  .ok ((s.setReg .a (s.reg r)).setReg r (s.reg .a))

/-- Exchange A with a byte of memory: one read, then one write of the same address (R174). A is the register of the
bank selected at the start, also where the byte is PSW (70_reset_and_hazards.md R454; log 26). -/
def exchangeMem (m : MemOp) (s : State) : Result := do
  let ea ← memAddr s m
  let v ← loadByte s ea
  storeByte ((touchedByte s ea).setReg .a v) (s.reg .a) ea

/-- Exchange AX with a pair of the same bank (R202). -/
def exchangePair (p : RegPair) (s : State) : Result :=
  .ok ((s.setPair .ax (s.pair p)).setPair p (s.pair .ax))

/-- MOVS (R177): store X; Z and CY from X and A as they were, AC as it is. DESIGN CHOICE (log 44), unsafe: where the
stored byte is A itself, CY is computed from A as it was before the store; where it is PSW, A and X are those of the bank
selected before it, and AC is bit 4 of X (log 45). -/
def moveString (m : MemOp) (s : State) : Result := do
  let t ← (Loc8.mem m).write s (s.reg .x)
  .ok ((t.setZ (s.reg .x == 0)).setCy (s.reg .a == 0 || s.reg .x == 0))

/-! ## 8-bit operations (42_alu8.md, 45_incdec.md) -/

/-- `dst <- f(dst, src)` with Z, AC and CY from `f` (R220). -/
def arith8 (f : Byte → Byte → Alu8) (dst : Loc8) (src : Src8) (s : State) : Result := do
  let a ← dst.value s
  let b ← src.value s
  let t ← dst.write (src.touched (dst.touched s)) (f a b).res
  .ok (t.setFlags (f a b).flags)

/-- `dst <- f(dst, src)` bitwise, with Z from the result; AC and CY as they are (R220, log8). -/
def logic8 (f : Byte → Byte → Byte) (dst : Loc8) (src : Src8) (s : State) : Result := do
  let a ← dst.value s
  let b ← src.value s
  let t ← dst.write (src.touched (dst.touched s)) (f a b)
  .ok (t.setZ (f a b == 0))

/-- CMP (R228): the flags of `dst - src`, nothing stored. -/
def compare8 (dst : Loc8) (src : Src8) (s : State) : Result := do
  let a ← dst.value s
  let b ← src.value s
  .ok ((src.touched (dst.touched s)).setFlags (sub8 a b false).flags)

/-- CMP0 (R229). -/
def compareZero (dst : Loc8) (s : State) : Result := do
  let a ← dst.value s
  .ok ((dst.touched s).setFlags (cmp0Flags a))

/-- CMPS (R230). -/
def compareString (m : MemOp) (s : State) : Result := do
  let v ← (Loc8.mem m).value s
  .ok (((Loc8.mem m).touched s).setFlags (cmpsFlags (s.reg .a) (s.reg .x) v))

/-- INC and DEC: one read, one write, Z and AC from `f`, CY as it is (45_incdec.md R280, R281). DESIGN CHOICE (log 45),
unsafe: where the destination is PSW itself, CY is bit 0 of the stored result. -/
def step8 (f : Byte → Step8) (dst : Loc8) (s : State) : Result := do
  let v ← dst.value s
  let t ← dst.write (dst.touched s) (f v).res
  .ok ((t.setZ (f v).z).setAc (f v).ac)

/-! ## 16-bit operations (43_alu16.md, 45_incdec.md) -/

/-- Z and CY from a 16-bit operation; AC takes any value (43_alu16.md R250; D12). -/
def State.setFlags16 (s : State) (r : Alu16) : State := s.setFlags { z := r.z, ac := s.freeBit .auxCarry, cy := r.cy }

/-- `AX <- f(AX, src)` (R251, R252). -/
def arith16 (f : Word → Word → Alu16) (src : Src16) (s : State) : Result := do
  let b ← src.value s
  .ok (((src.touched s).setPair .ax (f (s.pair .ax) b).res).setFlags16 (f (s.pair .ax) b))

/-- CMPW (R253): the flags of `AX - src`, nothing stored. -/
def compare16 (src : Src16) (s : State) : Result := do
  let b ← src.value s
  .ok ((src.touched s).setFlags16 (sub16 (s.pair .ax) b))

/-- INCW and DECW: one read, one write, no flag (45_incdec.md R282, R283). DESIGN CHOICE (log 45), unsafe: where one of the
bytes is PSW itself, the flags are those of the stored byte. -/
def step16 (f : Word → Word) (dst : Loc16) (s : State) : Result := do
  let v ← dst.value s
  dst.write (dst.touched s) (f v)

/-! ## Shifts and rotates (46_shift_rotate.md) -/

/-- A shift or rotate of a register: the result and CY; Z and AC as they are (R290). -/
def shiftReg (f : Byte → Shifted 8) (r : Reg) (s : State) : Result :=
  .ok ((s.setReg r (f (s.reg r)).res).setCy (f (s.reg r)).cy)

/-- A shift or rotate of a pair (R290). -/
def shiftPair (f : Word → Shifted 16) (p : RegPair) (s : State) : Result :=
  .ok ((s.setPair p (f (s.pair p)).res).setCy (f (s.pair p)).cy)

/-! ## Bit manipulation (47_bit.md) -/

/-- `CY <- f(CY, src bit)` (R311-R314). -/
def bitToCy (f : Bool → Bool → Bool) (src : Loc8) (bit : Fin 8) (s : State) : Result := do
  let v ← src.value s
  .ok ((src.touched s).setCy (f s.cy (bitOf v bit)))

/-- `dst bit <- v`: the byte is read, changed in one bit and written back (R310; D29). -/
def putBit8 (dst : Loc8) (bit : Fin 8) (v : Bool) (s : State) : Result := do
  let b ← dst.value s
  dst.write (dst.touched s) (putBit b bit v)

/-- `CY <- f(CY, PSW bit)` (R311-R314). -/
def pswBitToCy (f : Bool → Bool → Bool) (bit : Fin 8) (s : State) : Result :=
  .ok (s.setCy (f s.cy (s.psw.bit bit)))

/-- `PSW bit <- v`: only that bit changes, and interrupts are held until after the next instruction (R310, R311, R315,
R316). -/
def putPswBit (bit : Fin 8) (v : Bool) (s : State) : Result := .ok (holdInterrupts (s.writePswBit bit v))

/-! ## Branches (49_branch_skip_control.md) -/

/-- A relative branch by `disp`, taken when `cond` holds (R360, R361). -/
def branchIf (cond : Bool) (disp : Byte) (s : State) : Result :=
  if cond then jumpRelative s (sext8 disp) else .ok s

/-- BT and BF: branch when the bit equals `want` (R369, R370). -/
def branchOnBit (want : Bool) (src : Loc8) (bit : Fin 8) (disp : Byte) (s : State) : Result := do
  let v ← src.value s
  branchIf (bitOf v bit == want) disp (src.touched s)

/-- BTCLR: when the bit is 1, clear it and branch; else nothing is written (R371). -/
def branchClear (dst : Loc8) (bit : Fin 8) (disp : Byte) (s : State) : Result := do
  let v ← dst.value s
  if bitOf v bit then do
    let t ← dst.write (dst.touched s) (putBit v bit false)
    jumpRelative t (sext8 disp)
  else .ok (dst.touched s)

/-- BT and BF on a PSW bit (R369, R370). -/
def branchOnPswBit (want : Bool) (bit : Fin 8) (disp : Byte) (s : State) : Result :=
  branchIf (s.psw.bit bit == want) disp s

/-- BTCLR on a PSW bit; interrupts are held until after the next instruction, taken or not (R371). -/
def branchClearPswBit (bit : Fin 8) (disp : Byte) (s : State) : Result :=
  if s.psw.bit bit then jumpRelative (holdInterrupts (s.writePswBit bit false)) (sext8 disp)
  else .ok (holdInterrupts s)

/-- A conditional skip: the next instruction is skipped when `cond` holds; in both cases interrupts are held until
after it (R375). -/
def skipIf (cond : Bool) (s : State) : Result := .ok { s with inhibit := true, skip := cond }

/-! ## The extension instructions of S3 (44_muldiv.md R260) -/

/-- An instruction of S3 only. -/
def onS3 (s : State) (r : State) : Result :=
  if s.cfg.core = .s3 then .ok r else .error (.refused .notOnThisCore)

/-- The double word of two pairs, high:low. -/
def State.pairs (s : State) (hi lo : RegPair) : DWord := dwordOf (s.pair hi) (s.pair lo)

/-- Write a double word to two pairs, high:low. -/
def State.setPairs (s : State) (hi lo : RegPair) (v : DWord) : State :=
  (s.setPair hi (highWord v)).setPair lo (lowWord v)

/-- The instruction that follows is a NOP: its byte can be fetched and is 00H (44_muldiv.md R268). -/
def followedByNop (s : State) : Bool := fetchable s.cfg s.pc.toNat && s.mem.read s.pc.toNat == 0x00

/-- After DIVHU or DIVWU: the division is unprotected when IE = 1 and it was fetched from RAM or is not followed by a
NOP (R268; D33). The byte before nextPC is the instruction's own. -/
def markDivision (s : State) : State :=
  { s with divHazard := s.ie && (inRam s.cfg (s.pc - 1).toNat || !followedByNop s) }

/-- An interrupt accepted right after an unprotected division leaves AX, BC, DE and HL with any value (R268; D33). -/
def spoilDivision (s : State) : State :=
  if s.divHazard then
    s.withBank s.rbs
      { x := s.freeByte (.divByte 0), a := s.freeByte (.divByte 1), c := s.freeByte (.divByte 2)
        b := s.freeByte (.divByte 3), e := s.freeByte (.divByte 4), d := s.freeByte (.divByte 5)
        l := s.freeByte (.divByte 6), h := s.freeByte (.divByte 7) }
  else s

end Sys2Proof.Machine
end

