-- ==== Sys2Proof/Machine/Cycle.lean ====
section
/-!
DEFINITION. What a step does around an instruction: fetch, the start of an instruction, accepting an interrupt, the
reset signal.
-/

namespace Sys2Proof.Machine

/-! ## Fetch (20_memory.md R52, R75) -/

/-- The code byte at an address, as fetch sees it (R75; D8). -/
def fetchByte (s : State) (a : Nat) : Byte := s.queue.read a

/-- The fetch view `q` of the memory `m` after it has seen the stores made so far at those of the listed cells for which
`sees` says so. -/
def catchUp (sees : Nat → Bool) (m : Memory) : List Host.Cell → Memory → Memory
  | [], q => q
  | c :: rest, q =>
    catchUp sees m rest
      (if m.read c.1 = q.read c.1 then q else if sees c.1 then q.write c.1 (m.read c.1) else q)

/-- The fetch view at the next step: at each byte fetch has seen the stores made so far or still sees what it saw (R75;
D8). So of several stores to one byte each may be seen or not, until the next control transfer (`jump`) shows them all. -/
def nextFetchView (s : State) : Memory :=
  catchUp (fun a => Config.freeBit (s.draws + 1) (.staleFetch a)) s.mem (s.mem ++ s.queue) s.queue

/-- Up to `n` code bytes from an address on, as far as code may be fetched. -/
def fetchBytes (s : State) : Nat → Addr → List Byte
  | 0, _ => []
  | n + 1, a => if fetchable s.cfg a.toNat then fetchByte s a.toNat :: fetchBytes s n (a + 1) else []

/-- Why no instruction runs when the bytes at PC are none. -/
def decodeStop : DecodeError → Stop
  | .unassigned => .refused .unassignedCode
  | .truncated => .fault .fetchOutsideCode

/-- The start of an instruction of `len` bytes: PC becomes nextPC (00_scope.md section 5.2), and what held for this one
instruction alone ends: the inhibit window, the skip, the PMC delay, the division hazard. -/
def startInstruction (s : State) (len : Nat) : State :=
  { s with
    pc := s.pc + BitVec.ofNat 20 len
    inhibit := false
    skip := false
    pmcDelay := s.pmcDelay - 1
    divHazard := false }

/-- A skipped instruction has no effect but to pass (49_branch_skip_control.md R375; D21); PREFIX without an `ES:` form
has no length, so it cannot be skipped. -/
def skipped (i : Instr) (t : State) : Host.Outcome State Fault Refusal :=
  match i with
  | .prefixByte => .refused .prefixWithoutEsForm
  | _ => .next t

/-! ## Interrupts (60_exceptions.md R402-R406) -/

/-- The one acceptance condition the CPU enforces: a maskable request needs IE = 1 (R403; D6). -/
def acceptable (s : State) (q : IrqRequest) : Bool := !q.maskable || s.ie

/-- A vector `Irq` may supply: even, 00002H to 0007CH (R402; D24). -/
def vectorAllowed (v : Nat) : Bool := v % 2 == 0 && decide (2 ≤ v) && decide (v ≤ 0x7C)

/-- Accept a request (R406). -/
def acceptInterrupt (s : State) (q : IrqRequest) : Result :=
  if vectorAllowed q.vector then
    (takeException (spoilDivision s) q.vector (some q.newIsp)).map fun t => { t with divHazard := false }
  else .error (.refused .irqVector)

/-- The request that is taken at this boundary, if any: none while interrupts are inhibited (R404). -/
def pendingRequest (s : State) (q : Option IrqRequest) : Option IrqRequest :=
  if s.inhibit then none else q.filter (acceptable s)

/-! ## Reset (70_reset_and_hazards.md R440) -/

/-- A bank with free registers. -/
def freeBank (s : State) (base : Nat) : Bank :=
  { x := s.freeByte (.resetReg base), a := s.freeByte (.resetReg (base + 1)), c := s.freeByte (.resetReg (base + 2))
    b := s.freeByte (.resetReg (base + 3)), e := s.freeByte (.resetReg (base + 4))
    d := s.freeByte (.resetReg (base + 5)), l := s.freeByte (.resetReg (base + 6))
    h := s.freeByte (.resetReg (base + 7)) }

/-- Memory after a reset signal: internal RAM takes any value, flash keeps its bytes (R440; D13). -/
def resetMemory (c : Config) (cells : List Host.Cell) (m : Memory) : Memory :=
  cells.foldl (fun m cell => if inRam c cell.1 then m.write cell.1 cell.2 else m) m

/-- The reset signal (R440): PC from the word at 00000H, PSW 06H, ES 0FH, CS 00H, PMC 00H, the hidden flags clear;
SP (even), the general registers, MACR and RAM take any value. The devices see it. -/
def resetSignal (s : State) : State :=
  let mem := resetMemory s.cfg (Config.freeCells s.draws) s.mem
  { s with
    pc := addrOf 0 (wordOf (mem.read 1) (mem.read 0))
    psw := Psw.atReset
    sp := wordOf (s.freeByte (.resetSp 1)) (s.freeByte (.resetSp 0)) &&& 0xFFFE
    es := 0x0F
    cs := 0x00
    pmc := 0x00
    macr := dwordOf (wordOf (s.freeByte (.resetMacr 3)) (s.freeByte (.resetMacr 2)))
      (wordOf (s.freeByte (.resetMacr 1)) (s.freeByte (.resetMacr 0)))
    bank0 := freeBank s 0
    bank1 := freeBank s 8
    bank2 := freeBank s 16
    bank3 := freeBank s 24
    mem := mem
    queue := mem
    inhibit := false
    skip := false
    mode := .run
    pmcDelay := 0
    divHazard := false
    devLog := s.devLog ++ [.resetSignal] }

/-! ## The outside world (60_exceptions.md R403, R420) -/

/-- No event. -/
def quietInput : EnvInput := { reset := false, release := false, request := none }

/-- What `Irq` is consulted with at this step boundary (R403). -/
def State.irqView (s : State) : IrqView where
  time := s.draws
  ie := s.psw.ie
  isp := BitVec.ofNat 2 (2 * bitVal s.psw.isp1 + bitVal s.psw.isp0)
  history := s.devLog

/-- What the outside world answers when it is consulted: as fixed in the state, else any answer (R403; D6, D16). -/
def consult (fixed : List (IrqView × EnvInput)) (v : IrqView) : EnvInput :=
  match fixed.lookup v with
  | some e => e
  | none => { reset := Config.resetInput v, release := Config.irqRelease v, request := Config.irqRequest v }

/-- What the outside world does at this step. -/
def currentInput (s : State) : EnvInput := consult s.irq s.irqView

/-- The state as the step starts: fetch may have seen more of the stores made so far, and free values are drawn
afresh. -/
def tick (s : State) : State := { s with queue := nextFetchView s, draws := s.draws + 1 }

/-- The CPU stays in standby at this step (60_exceptions.md R420). -/
def staysInStandby (s : State) (e : EnvInput) : Bool := s.mode != .run && !e.release

/-- Store the bytes of a list at consecutive addresses. -/
def storeBytes (m : Memory) (a : Nat) : List Byte → Memory
  | [] => m
  | b :: rest => storeBytes (m.write a b) (a + 1) rest

end Sys2Proof.Machine
end

