-- ==== Sys2Proof/Machine/Alu16.lean ====
section
/-!
DEFINITION. 16-bit operations (43_alu16.md): one meaning per row of spec/opcode_table.json.
-/

namespace Sys2Proof.Machine

/-- ADDW AX,#word (R251). -/
def execAddwAxImm (data : Word) (s : State) : Host.Outcome State Fault Refusal :=
  finish (arith16 add16 (.imm data) s)

/-- ADDW AX,rp (R251). -/
def execAddwAxRp (rp : RegPair) (s : State) : Host.Outcome State Fault Refusal :=
  finish (arith16 add16 (.loc (.pair rp)) s)

/-- ADDW AX,saddrp (R251). -/
def execAddwAxSaddrp (sa : Byte) (s : State) : Host.Outcome State Fault Refusal :=
  finish (arith16 add16 (.loc (.mem (.saddr sa))) s)

/-- ADDW AX,!addr16 (R251). -/
def execAddwAxAbs (addr : Word) (s : State) : Host.Outcome State Fault Refusal :=
  finish (arith16 add16 (.loc (.mem (.abs .f addr))) s)

/-- ADDW AX,ES:!addr16 (R251). -/
def execAddwAxEsAbs (addr : Word) (s : State) : Host.Outcome State Fault Refusal :=
  finish (arith16 add16 (.loc (.mem (.abs .es addr))) s)

/-- ADDW AX,[HL+byte] (R251). -/
def execAddwAxHlOff (off : Byte) (s : State) : Host.Outcome State Fault Refusal :=
  finish (arith16 add16 (.loc (.mem (.based .f .hl off))) s)

/-- ADDW AX,ES:[HL+byte] (R251). -/
def execAddwAxEsHlOff (off : Byte) (s : State) : Host.Outcome State Fault Refusal :=
  finish (arith16 add16 (.loc (.mem (.based .es .hl off))) s)

/-- SUBW AX,#word (R252). -/
def execSubwAxImm (data : Word) (s : State) : Host.Outcome State Fault Refusal :=
  finish (arith16 sub16 (.imm data) s)

/-- SUBW AX,rp (R252). -/
def execSubwAxRp (rp : RegPair) (s : State) : Host.Outcome State Fault Refusal :=
  finish (arith16 sub16 (.loc (.pair rp)) s)

/-- SUBW AX,saddrp (R252). -/
def execSubwAxSaddrp (sa : Byte) (s : State) : Host.Outcome State Fault Refusal :=
  finish (arith16 sub16 (.loc (.mem (.saddr sa))) s)

/-- SUBW AX,!addr16 (R252). -/
def execSubwAxAbs (addr : Word) (s : State) : Host.Outcome State Fault Refusal :=
  finish (arith16 sub16 (.loc (.mem (.abs .f addr))) s)

/-- SUBW AX,ES:!addr16 (R252). -/
def execSubwAxEsAbs (addr : Word) (s : State) : Host.Outcome State Fault Refusal :=
  finish (arith16 sub16 (.loc (.mem (.abs .es addr))) s)

/-- SUBW AX,[HL+byte] (R252). -/
def execSubwAxHlOff (off : Byte) (s : State) : Host.Outcome State Fault Refusal :=
  finish (arith16 sub16 (.loc (.mem (.based .f .hl off))) s)

/-- SUBW AX,ES:[HL+byte] (R252). -/
def execSubwAxEsHlOff (off : Byte) (s : State) : Host.Outcome State Fault Refusal :=
  finish (arith16 sub16 (.loc (.mem (.based .es .hl off))) s)

/-- CMPW AX,#word (R253). -/
def execCmpwAxImm (data : Word) (s : State) : Host.Outcome State Fault Refusal :=
  finish (compare16 (.imm data) s)

/-- CMPW AX,rp (R253). -/
def execCmpwAxRp (rp : RegPair) (s : State) : Host.Outcome State Fault Refusal :=
  finish (compare16 (.loc (.pair rp)) s)

/-- CMPW AX,saddrp (R253). -/
def execCmpwAxSaddrp (sa : Byte) (s : State) : Host.Outcome State Fault Refusal :=
  finish (compare16 (.loc (.mem (.saddr sa))) s)

/-- CMPW AX,!addr16 (R253). -/
def execCmpwAxAbs (addr : Word) (s : State) : Host.Outcome State Fault Refusal :=
  finish (compare16 (.loc (.mem (.abs .f addr))) s)

/-- CMPW AX,ES:!addr16 (R253). -/
def execCmpwAxEsAbs (addr : Word) (s : State) : Host.Outcome State Fault Refusal :=
  finish (compare16 (.loc (.mem (.abs .es addr))) s)

/-- CMPW AX,[HL+byte] (R253). -/
def execCmpwAxHlOff (off : Byte) (s : State) : Host.Outcome State Fault Refusal :=
  finish (compare16 (.loc (.mem (.based .f .hl off))) s)

/-- CMPW AX,ES:[HL+byte] (R253). -/
def execCmpwAxEsHlOff (off : Byte) (s : State) : Host.Outcome State Fault Refusal :=
  finish (compare16 (.loc (.mem (.based .es .hl off))) s)

end Sys2Proof.Machine
end

