-- ==== Sys2Proof/Machine/Alu8.lean ====
section
/-!
DEFINITION. 8-bit operations (42_alu8.md): one meaning per row of spec/opcode_table.json.
-/

namespace Sys2Proof.Machine

/-- ADD A,#byte (R221). -/
def execAddAImm (data : Byte) (s : State) : Host.Outcome State Fault Refusal :=
  finish (arith8 (fun a b => add8 a b false) accA (.imm data) s)

/-- ADD saddr,#byte (R221). -/
def execAddSaddrImm (sa : Byte) (data : Byte) (s : State) : Host.Outcome State Fault Refusal :=
  finish (arith8 (fun a b => add8 a b false) (.mem (.saddr sa)) (.imm data) s)

/-- ADD A,r (R221). -/
def execAddAR (r : Reg) (s : State) : Host.Outcome State Fault Refusal :=
  finish (arith8 (fun a b => add8 a b false) accA (.loc (.reg r)) s)

/-- ADD r,A (R221). -/
def execAddRA (r : Reg) (s : State) : Host.Outcome State Fault Refusal :=
  finish (arith8 (fun a b => add8 a b false) (.reg r) (.loc accA) s)

/-- ADD A,saddr (R221). -/
def execAddASaddr (sa : Byte) (s : State) : Host.Outcome State Fault Refusal :=
  finish (arith8 (fun a b => add8 a b false) accA (.loc (.mem (.saddr sa))) s)

/-- ADD A,!addr16 (R221). -/
def execAddAAbs (addr : Word) (s : State) : Host.Outcome State Fault Refusal :=
  finish (arith8 (fun a b => add8 a b false) accA (.loc (.mem (.abs .f addr))) s)

/-- ADD A,ES:!addr16 (R221). -/
def execAddAEsAbs (addr : Word) (s : State) : Host.Outcome State Fault Refusal :=
  finish (arith8 (fun a b => add8 a b false) accA (.loc (.mem (.abs .es addr))) s)

/-- ADD A,[HL] (R221). -/
def execAddAAtHl (s : State) : Host.Outcome State Fault Refusal :=
  finish (arith8 (fun a b => add8 a b false) accA (.loc (.mem (.indirect .f .hl))) s)

/-- ADD A,ES:[HL] (R221). -/
def execAddAEsAtHl (s : State) : Host.Outcome State Fault Refusal :=
  finish (arith8 (fun a b => add8 a b false) accA (.loc (.mem (.indirect .es .hl))) s)

/-- ADD A,[HL+byte] (R221). -/
def execAddAHlOff (off : Byte) (s : State) : Host.Outcome State Fault Refusal :=
  finish (arith8 (fun a b => add8 a b false) accA (.loc (.mem (.based .f .hl off))) s)

/-- ADD A,ES:[HL+byte] (R221). -/
def execAddAEsHlOff (off : Byte) (s : State) : Host.Outcome State Fault Refusal :=
  finish (arith8 (fun a b => add8 a b false) accA (.loc (.mem (.based .es .hl off))) s)

/-- ADD A,[HL+B] (R221). -/
def execAddAHlB (s : State) : Host.Outcome State Fault Refusal :=
  finish (arith8 (fun a b => add8 a b false) accA (.loc (.mem (.indexed .f .b))) s)

/-- ADD A,ES:[HL+B] (R221). -/
def execAddAEsHlB (s : State) : Host.Outcome State Fault Refusal :=
  finish (arith8 (fun a b => add8 a b false) accA (.loc (.mem (.indexed .es .b))) s)

/-- ADD A,[HL+C] (R221). -/
def execAddAHlC (s : State) : Host.Outcome State Fault Refusal :=
  finish (arith8 (fun a b => add8 a b false) accA (.loc (.mem (.indexed .f .c))) s)

/-- ADD A,ES:[HL+C] (R221). -/
def execAddAEsHlC (s : State) : Host.Outcome State Fault Refusal :=
  finish (arith8 (fun a b => add8 a b false) accA (.loc (.mem (.indexed .es .c))) s)

/-- ADDC A,#byte (R222). -/
def execAddcAImm (data : Byte) (s : State) : Host.Outcome State Fault Refusal :=
  finish (arith8 (fun a b => add8 a b s.cy) accA (.imm data) s)

/-- ADDC saddr,#byte (R222). -/
def execAddcSaddrImm (sa : Byte) (data : Byte) (s : State) : Host.Outcome State Fault Refusal :=
  finish (arith8 (fun a b => add8 a b s.cy) (.mem (.saddr sa)) (.imm data) s)

/-- ADDC A,r (R222). -/
def execAddcAR (r : Reg) (s : State) : Host.Outcome State Fault Refusal :=
  finish (arith8 (fun a b => add8 a b s.cy) accA (.loc (.reg r)) s)

/-- ADDC r,A (R222). -/
def execAddcRA (r : Reg) (s : State) : Host.Outcome State Fault Refusal :=
  finish (arith8 (fun a b => add8 a b s.cy) (.reg r) (.loc accA) s)

/-- ADDC A,saddr (R222). -/
def execAddcASaddr (sa : Byte) (s : State) : Host.Outcome State Fault Refusal :=
  finish (arith8 (fun a b => add8 a b s.cy) accA (.loc (.mem (.saddr sa))) s)

/-- ADDC A,!addr16 (R222). -/
def execAddcAAbs (addr : Word) (s : State) : Host.Outcome State Fault Refusal :=
  finish (arith8 (fun a b => add8 a b s.cy) accA (.loc (.mem (.abs .f addr))) s)

/-- ADDC A,ES:!addr16 (R222). -/
def execAddcAEsAbs (addr : Word) (s : State) : Host.Outcome State Fault Refusal :=
  finish (arith8 (fun a b => add8 a b s.cy) accA (.loc (.mem (.abs .es addr))) s)

/-- ADDC A,[HL] (R222). -/
def execAddcAAtHl (s : State) : Host.Outcome State Fault Refusal :=
  finish (arith8 (fun a b => add8 a b s.cy) accA (.loc (.mem (.indirect .f .hl))) s)

/-- ADDC A,ES:[HL] (R222). -/
def execAddcAEsAtHl (s : State) : Host.Outcome State Fault Refusal :=
  finish (arith8 (fun a b => add8 a b s.cy) accA (.loc (.mem (.indirect .es .hl))) s)

/-- ADDC A,[HL+byte] (R222). -/
def execAddcAHlOff (off : Byte) (s : State) : Host.Outcome State Fault Refusal :=
  finish (arith8 (fun a b => add8 a b s.cy) accA (.loc (.mem (.based .f .hl off))) s)

/-- ADDC A,ES:[HL+byte] (R222). -/
def execAddcAEsHlOff (off : Byte) (s : State) : Host.Outcome State Fault Refusal :=
  finish (arith8 (fun a b => add8 a b s.cy) accA (.loc (.mem (.based .es .hl off))) s)

/-- ADDC A,[HL+B] (R222). -/
def execAddcAHlB (s : State) : Host.Outcome State Fault Refusal :=
  finish (arith8 (fun a b => add8 a b s.cy) accA (.loc (.mem (.indexed .f .b))) s)

/-- ADDC A,ES:[HL+B] (R222). -/
def execAddcAEsHlB (s : State) : Host.Outcome State Fault Refusal :=
  finish (arith8 (fun a b => add8 a b s.cy) accA (.loc (.mem (.indexed .es .b))) s)

/-- ADDC A,[HL+C] (R222). -/
def execAddcAHlC (s : State) : Host.Outcome State Fault Refusal :=
  finish (arith8 (fun a b => add8 a b s.cy) accA (.loc (.mem (.indexed .f .c))) s)

/-- ADDC A,ES:[HL+C] (R222). -/
def execAddcAEsHlC (s : State) : Host.Outcome State Fault Refusal :=
  finish (arith8 (fun a b => add8 a b s.cy) accA (.loc (.mem (.indexed .es .c))) s)

/-- SUB A,#byte (R223). -/
def execSubAImm (data : Byte) (s : State) : Host.Outcome State Fault Refusal :=
  finish (arith8 (fun a b => sub8 a b false) accA (.imm data) s)

/-- SUB saddr,#byte (R223). -/
def execSubSaddrImm (sa : Byte) (data : Byte) (s : State) : Host.Outcome State Fault Refusal :=
  finish (arith8 (fun a b => sub8 a b false) (.mem (.saddr sa)) (.imm data) s)

/-- SUB A,r (R223). -/
def execSubAR (r : Reg) (s : State) : Host.Outcome State Fault Refusal :=
  finish (arith8 (fun a b => sub8 a b false) accA (.loc (.reg r)) s)

/-- SUB r,A (R223). -/
def execSubRA (r : Reg) (s : State) : Host.Outcome State Fault Refusal :=
  finish (arith8 (fun a b => sub8 a b false) (.reg r) (.loc accA) s)

/-- SUB A,saddr (R223). -/
def execSubASaddr (sa : Byte) (s : State) : Host.Outcome State Fault Refusal :=
  finish (arith8 (fun a b => sub8 a b false) accA (.loc (.mem (.saddr sa))) s)

/-- SUB A,!addr16 (R223). -/
def execSubAAbs (addr : Word) (s : State) : Host.Outcome State Fault Refusal :=
  finish (arith8 (fun a b => sub8 a b false) accA (.loc (.mem (.abs .f addr))) s)

/-- SUB A,ES:!addr16 (R223). -/
def execSubAEsAbs (addr : Word) (s : State) : Host.Outcome State Fault Refusal :=
  finish (arith8 (fun a b => sub8 a b false) accA (.loc (.mem (.abs .es addr))) s)

/-- SUB A,[HL] (R223). -/
def execSubAAtHl (s : State) : Host.Outcome State Fault Refusal :=
  finish (arith8 (fun a b => sub8 a b false) accA (.loc (.mem (.indirect .f .hl))) s)

/-- SUB A,ES:[HL] (R223). -/
def execSubAEsAtHl (s : State) : Host.Outcome State Fault Refusal :=
  finish (arith8 (fun a b => sub8 a b false) accA (.loc (.mem (.indirect .es .hl))) s)

/-- SUB A,[HL+byte] (R223). -/
def execSubAHlOff (off : Byte) (s : State) : Host.Outcome State Fault Refusal :=
  finish (arith8 (fun a b => sub8 a b false) accA (.loc (.mem (.based .f .hl off))) s)

/-- SUB A,ES:[HL+byte] (R223). -/
def execSubAEsHlOff (off : Byte) (s : State) : Host.Outcome State Fault Refusal :=
  finish (arith8 (fun a b => sub8 a b false) accA (.loc (.mem (.based .es .hl off))) s)

/-- SUB A,[HL+B] (R223). -/
def execSubAHlB (s : State) : Host.Outcome State Fault Refusal :=
  finish (arith8 (fun a b => sub8 a b false) accA (.loc (.mem (.indexed .f .b))) s)

/-- SUB A,ES:[HL+B] (R223). -/
def execSubAEsHlB (s : State) : Host.Outcome State Fault Refusal :=
  finish (arith8 (fun a b => sub8 a b false) accA (.loc (.mem (.indexed .es .b))) s)

/-- SUB A,[HL+C] (R223). -/
def execSubAHlC (s : State) : Host.Outcome State Fault Refusal :=
  finish (arith8 (fun a b => sub8 a b false) accA (.loc (.mem (.indexed .f .c))) s)

/-- SUB A,ES:[HL+C] (R223). -/
def execSubAEsHlC (s : State) : Host.Outcome State Fault Refusal :=
  finish (arith8 (fun a b => sub8 a b false) accA (.loc (.mem (.indexed .es .c))) s)

/-- SUBC A,#byte (R224). -/
def execSubcAImm (data : Byte) (s : State) : Host.Outcome State Fault Refusal :=
  finish (arith8 (fun a b => sub8 a b s.cy) accA (.imm data) s)

/-- SUBC saddr,#byte (R224). -/
def execSubcSaddrImm (sa : Byte) (data : Byte) (s : State) : Host.Outcome State Fault Refusal :=
  finish (arith8 (fun a b => sub8 a b s.cy) (.mem (.saddr sa)) (.imm data) s)

/-- SUBC A,r (R224). -/
def execSubcAR (r : Reg) (s : State) : Host.Outcome State Fault Refusal :=
  finish (arith8 (fun a b => sub8 a b s.cy) accA (.loc (.reg r)) s)

/-- SUBC r,A (R224). -/
def execSubcRA (r : Reg) (s : State) : Host.Outcome State Fault Refusal :=
  finish (arith8 (fun a b => sub8 a b s.cy) (.reg r) (.loc accA) s)

/-- SUBC A,saddr (R224). -/
def execSubcASaddr (sa : Byte) (s : State) : Host.Outcome State Fault Refusal :=
  finish (arith8 (fun a b => sub8 a b s.cy) accA (.loc (.mem (.saddr sa))) s)

/-- SUBC A,!addr16 (R224). -/
def execSubcAAbs (addr : Word) (s : State) : Host.Outcome State Fault Refusal :=
  finish (arith8 (fun a b => sub8 a b s.cy) accA (.loc (.mem (.abs .f addr))) s)

/-- SUBC A,ES:!addr16 (R224). -/
def execSubcAEsAbs (addr : Word) (s : State) : Host.Outcome State Fault Refusal :=
  finish (arith8 (fun a b => sub8 a b s.cy) accA (.loc (.mem (.abs .es addr))) s)

/-- SUBC A,[HL] (R224). -/
def execSubcAAtHl (s : State) : Host.Outcome State Fault Refusal :=
  finish (arith8 (fun a b => sub8 a b s.cy) accA (.loc (.mem (.indirect .f .hl))) s)

/-- SUBC A,ES:[HL] (R224). -/
def execSubcAEsAtHl (s : State) : Host.Outcome State Fault Refusal :=
  finish (arith8 (fun a b => sub8 a b s.cy) accA (.loc (.mem (.indirect .es .hl))) s)

/-- SUBC A,[HL+byte] (R224). -/
def execSubcAHlOff (off : Byte) (s : State) : Host.Outcome State Fault Refusal :=
  finish (arith8 (fun a b => sub8 a b s.cy) accA (.loc (.mem (.based .f .hl off))) s)

/-- SUBC A,ES:[HL+byte] (R224). -/
def execSubcAEsHlOff (off : Byte) (s : State) : Host.Outcome State Fault Refusal :=
  finish (arith8 (fun a b => sub8 a b s.cy) accA (.loc (.mem (.based .es .hl off))) s)

/-- SUBC A,[HL+B] (R224). -/
def execSubcAHlB (s : State) : Host.Outcome State Fault Refusal :=
  finish (arith8 (fun a b => sub8 a b s.cy) accA (.loc (.mem (.indexed .f .b))) s)

/-- SUBC A,ES:[HL+B] (R224). -/
def execSubcAEsHlB (s : State) : Host.Outcome State Fault Refusal :=
  finish (arith8 (fun a b => sub8 a b s.cy) accA (.loc (.mem (.indexed .es .b))) s)

/-- SUBC A,[HL+C] (R224). -/
def execSubcAHlC (s : State) : Host.Outcome State Fault Refusal :=
  finish (arith8 (fun a b => sub8 a b s.cy) accA (.loc (.mem (.indexed .f .c))) s)

/-- SUBC A,ES:[HL+C] (R224). -/
def execSubcAEsHlC (s : State) : Host.Outcome State Fault Refusal :=
  finish (arith8 (fun a b => sub8 a b s.cy) accA (.loc (.mem (.indexed .es .c))) s)

/-- CMP A,#byte (R228). -/
def execCmpAImm (data : Byte) (s : State) : Host.Outcome State Fault Refusal :=
  finish (compare8 accA (.imm data) s)

/-- CMP saddr,#byte (R228). -/
def execCmpSaddrImm (sa : Byte) (data : Byte) (s : State) : Host.Outcome State Fault Refusal :=
  finish (compare8 (.mem (.saddr sa)) (.imm data) s)

/-- CMP A,r (R228). -/
def execCmpAR (r : Reg) (s : State) : Host.Outcome State Fault Refusal :=
  finish (compare8 accA (.loc (.reg r)) s)

/-- CMP r,A (R228). -/
def execCmpRA (r : Reg) (s : State) : Host.Outcome State Fault Refusal :=
  finish (compare8 (.reg r) (.loc accA) s)

/-- CMP A,saddr (R228). -/
def execCmpASaddr (sa : Byte) (s : State) : Host.Outcome State Fault Refusal :=
  finish (compare8 accA (.loc (.mem (.saddr sa))) s)

/-- CMP A,!addr16 (R228). -/
def execCmpAAbs (addr : Word) (s : State) : Host.Outcome State Fault Refusal :=
  finish (compare8 accA (.loc (.mem (.abs .f addr))) s)

/-- CMP A,ES:!addr16 (R228). -/
def execCmpAEsAbs (addr : Word) (s : State) : Host.Outcome State Fault Refusal :=
  finish (compare8 accA (.loc (.mem (.abs .es addr))) s)

/-- CMP A,[HL] (R228). -/
def execCmpAAtHl (s : State) : Host.Outcome State Fault Refusal :=
  finish (compare8 accA (.loc (.mem (.indirect .f .hl))) s)

/-- CMP A,ES:[HL] (R228). -/
def execCmpAEsAtHl (s : State) : Host.Outcome State Fault Refusal :=
  finish (compare8 accA (.loc (.mem (.indirect .es .hl))) s)

/-- CMP A,[HL+byte] (R228). -/
def execCmpAHlOff (off : Byte) (s : State) : Host.Outcome State Fault Refusal :=
  finish (compare8 accA (.loc (.mem (.based .f .hl off))) s)

/-- CMP A,ES:[HL+byte] (R228). -/
def execCmpAEsHlOff (off : Byte) (s : State) : Host.Outcome State Fault Refusal :=
  finish (compare8 accA (.loc (.mem (.based .es .hl off))) s)

/-- CMP A,[HL+B] (R228). -/
def execCmpAHlB (s : State) : Host.Outcome State Fault Refusal :=
  finish (compare8 accA (.loc (.mem (.indexed .f .b))) s)

/-- CMP A,ES:[HL+B] (R228). -/
def execCmpAEsHlB (s : State) : Host.Outcome State Fault Refusal :=
  finish (compare8 accA (.loc (.mem (.indexed .es .b))) s)

/-- CMP A,[HL+C] (R228). -/
def execCmpAHlC (s : State) : Host.Outcome State Fault Refusal :=
  finish (compare8 accA (.loc (.mem (.indexed .f .c))) s)

/-- CMP A,ES:[HL+C] (R228). -/
def execCmpAEsHlC (s : State) : Host.Outcome State Fault Refusal :=
  finish (compare8 accA (.loc (.mem (.indexed .es .c))) s)

/-- AND A,#byte (R225). -/
def execAndAImm (data : Byte) (s : State) : Host.Outcome State Fault Refusal :=
  finish (logic8 (fun a b => a &&& b) accA (.imm data) s)

/-- AND saddr,#byte (R225). -/
def execAndSaddrImm (sa : Byte) (data : Byte) (s : State) : Host.Outcome State Fault Refusal :=
  finish (logic8 (fun a b => a &&& b) (.mem (.saddr sa)) (.imm data) s)

/-- AND A,r (R225). -/
def execAndAR (r : Reg) (s : State) : Host.Outcome State Fault Refusal :=
  finish (logic8 (fun a b => a &&& b) accA (.loc (.reg r)) s)

/-- AND r,A (R225). -/
def execAndRA (r : Reg) (s : State) : Host.Outcome State Fault Refusal :=
  finish (logic8 (fun a b => a &&& b) (.reg r) (.loc accA) s)

/-- AND A,saddr (R225). -/
def execAndASaddr (sa : Byte) (s : State) : Host.Outcome State Fault Refusal :=
  finish (logic8 (fun a b => a &&& b) accA (.loc (.mem (.saddr sa))) s)

/-- AND A,!addr16 (R225). -/
def execAndAAbs (addr : Word) (s : State) : Host.Outcome State Fault Refusal :=
  finish (logic8 (fun a b => a &&& b) accA (.loc (.mem (.abs .f addr))) s)

/-- AND A,ES:!addr16 (R225). -/
def execAndAEsAbs (addr : Word) (s : State) : Host.Outcome State Fault Refusal :=
  finish (logic8 (fun a b => a &&& b) accA (.loc (.mem (.abs .es addr))) s)

/-- AND A,[HL] (R225). -/
def execAndAAtHl (s : State) : Host.Outcome State Fault Refusal :=
  finish (logic8 (fun a b => a &&& b) accA (.loc (.mem (.indirect .f .hl))) s)

/-- AND A,ES:[HL] (R225). -/
def execAndAEsAtHl (s : State) : Host.Outcome State Fault Refusal :=
  finish (logic8 (fun a b => a &&& b) accA (.loc (.mem (.indirect .es .hl))) s)

/-- AND A,[HL+byte] (R225). -/
def execAndAHlOff (off : Byte) (s : State) : Host.Outcome State Fault Refusal :=
  finish (logic8 (fun a b => a &&& b) accA (.loc (.mem (.based .f .hl off))) s)

/-- AND A,ES:[HL+byte] (R225). -/
def execAndAEsHlOff (off : Byte) (s : State) : Host.Outcome State Fault Refusal :=
  finish (logic8 (fun a b => a &&& b) accA (.loc (.mem (.based .es .hl off))) s)

/-- AND A,[HL+B] (R225). -/
def execAndAHlB (s : State) : Host.Outcome State Fault Refusal :=
  finish (logic8 (fun a b => a &&& b) accA (.loc (.mem (.indexed .f .b))) s)

/-- AND A,ES:[HL+B] (R225). -/
def execAndAEsHlB (s : State) : Host.Outcome State Fault Refusal :=
  finish (logic8 (fun a b => a &&& b) accA (.loc (.mem (.indexed .es .b))) s)

/-- AND A,[HL+C] (R225). -/
def execAndAHlC (s : State) : Host.Outcome State Fault Refusal :=
  finish (logic8 (fun a b => a &&& b) accA (.loc (.mem (.indexed .f .c))) s)

/-- AND A,ES:[HL+C] (R225). -/
def execAndAEsHlC (s : State) : Host.Outcome State Fault Refusal :=
  finish (logic8 (fun a b => a &&& b) accA (.loc (.mem (.indexed .es .c))) s)

/-- OR A,#byte (R226). -/
def execOrAImm (data : Byte) (s : State) : Host.Outcome State Fault Refusal :=
  finish (logic8 (fun a b => a ||| b) accA (.imm data) s)

/-- OR saddr,#byte (R226). -/
def execOrSaddrImm (sa : Byte) (data : Byte) (s : State) : Host.Outcome State Fault Refusal :=
  finish (logic8 (fun a b => a ||| b) (.mem (.saddr sa)) (.imm data) s)

/-- OR A,r (R226). -/
def execOrAR (r : Reg) (s : State) : Host.Outcome State Fault Refusal :=
  finish (logic8 (fun a b => a ||| b) accA (.loc (.reg r)) s)

/-- OR r,A (R226). -/
def execOrRA (r : Reg) (s : State) : Host.Outcome State Fault Refusal :=
  finish (logic8 (fun a b => a ||| b) (.reg r) (.loc accA) s)

/-- OR A,saddr (R226). -/
def execOrASaddr (sa : Byte) (s : State) : Host.Outcome State Fault Refusal :=
  finish (logic8 (fun a b => a ||| b) accA (.loc (.mem (.saddr sa))) s)

/-- OR A,!addr16 (R226). -/
def execOrAAbs (addr : Word) (s : State) : Host.Outcome State Fault Refusal :=
  finish (logic8 (fun a b => a ||| b) accA (.loc (.mem (.abs .f addr))) s)

/-- OR A,ES:!addr16 (R226). -/
def execOrAEsAbs (addr : Word) (s : State) : Host.Outcome State Fault Refusal :=
  finish (logic8 (fun a b => a ||| b) accA (.loc (.mem (.abs .es addr))) s)

/-- OR A,[HL] (R226). -/
def execOrAAtHl (s : State) : Host.Outcome State Fault Refusal :=
  finish (logic8 (fun a b => a ||| b) accA (.loc (.mem (.indirect .f .hl))) s)

/-- OR A,ES:[HL] (R226). -/
def execOrAEsAtHl (s : State) : Host.Outcome State Fault Refusal :=
  finish (logic8 (fun a b => a ||| b) accA (.loc (.mem (.indirect .es .hl))) s)

/-- OR A,[HL+byte] (R226). -/
def execOrAHlOff (off : Byte) (s : State) : Host.Outcome State Fault Refusal :=
  finish (logic8 (fun a b => a ||| b) accA (.loc (.mem (.based .f .hl off))) s)

/-- OR A,ES:[HL+byte] (R226). -/
def execOrAEsHlOff (off : Byte) (s : State) : Host.Outcome State Fault Refusal :=
  finish (logic8 (fun a b => a ||| b) accA (.loc (.mem (.based .es .hl off))) s)

/-- OR A,[HL+B] (R226). -/
def execOrAHlB (s : State) : Host.Outcome State Fault Refusal :=
  finish (logic8 (fun a b => a ||| b) accA (.loc (.mem (.indexed .f .b))) s)

/-- OR A,ES:[HL+B] (R226). -/
def execOrAEsHlB (s : State) : Host.Outcome State Fault Refusal :=
  finish (logic8 (fun a b => a ||| b) accA (.loc (.mem (.indexed .es .b))) s)

/-- OR A,[HL+C] (R226). -/
def execOrAHlC (s : State) : Host.Outcome State Fault Refusal :=
  finish (logic8 (fun a b => a ||| b) accA (.loc (.mem (.indexed .f .c))) s)

/-- OR A,ES:[HL+C] (R226). -/
def execOrAEsHlC (s : State) : Host.Outcome State Fault Refusal :=
  finish (logic8 (fun a b => a ||| b) accA (.loc (.mem (.indexed .es .c))) s)

/-- XOR A,#byte (R227). -/
def execXorAImm (data : Byte) (s : State) : Host.Outcome State Fault Refusal :=
  finish (logic8 (fun a b => a ^^^ b) accA (.imm data) s)

/-- XOR saddr,#byte (R227). -/
def execXorSaddrImm (sa : Byte) (data : Byte) (s : State) : Host.Outcome State Fault Refusal :=
  finish (logic8 (fun a b => a ^^^ b) (.mem (.saddr sa)) (.imm data) s)

/-- XOR A,r (R227). -/
def execXorAR (r : Reg) (s : State) : Host.Outcome State Fault Refusal :=
  finish (logic8 (fun a b => a ^^^ b) accA (.loc (.reg r)) s)

/-- XOR r,A (R227). -/
def execXorRA (r : Reg) (s : State) : Host.Outcome State Fault Refusal :=
  finish (logic8 (fun a b => a ^^^ b) (.reg r) (.loc accA) s)

/-- XOR A,saddr (R227). -/
def execXorASaddr (sa : Byte) (s : State) : Host.Outcome State Fault Refusal :=
  finish (logic8 (fun a b => a ^^^ b) accA (.loc (.mem (.saddr sa))) s)

/-- XOR A,!addr16 (R227). -/
def execXorAAbs (addr : Word) (s : State) : Host.Outcome State Fault Refusal :=
  finish (logic8 (fun a b => a ^^^ b) accA (.loc (.mem (.abs .f addr))) s)

/-- XOR A,ES:!addr16 (R227). -/
def execXorAEsAbs (addr : Word) (s : State) : Host.Outcome State Fault Refusal :=
  finish (logic8 (fun a b => a ^^^ b) accA (.loc (.mem (.abs .es addr))) s)

/-- XOR A,[HL] (R227). -/
def execXorAAtHl (s : State) : Host.Outcome State Fault Refusal :=
  finish (logic8 (fun a b => a ^^^ b) accA (.loc (.mem (.indirect .f .hl))) s)

/-- XOR A,ES:[HL] (R227). -/
def execXorAEsAtHl (s : State) : Host.Outcome State Fault Refusal :=
  finish (logic8 (fun a b => a ^^^ b) accA (.loc (.mem (.indirect .es .hl))) s)

/-- XOR A,[HL+byte] (R227). -/
def execXorAHlOff (off : Byte) (s : State) : Host.Outcome State Fault Refusal :=
  finish (logic8 (fun a b => a ^^^ b) accA (.loc (.mem (.based .f .hl off))) s)

/-- XOR A,ES:[HL+byte] (R227). -/
def execXorAEsHlOff (off : Byte) (s : State) : Host.Outcome State Fault Refusal :=
  finish (logic8 (fun a b => a ^^^ b) accA (.loc (.mem (.based .es .hl off))) s)

/-- XOR A,[HL+B] (R227). -/
def execXorAHlB (s : State) : Host.Outcome State Fault Refusal :=
  finish (logic8 (fun a b => a ^^^ b) accA (.loc (.mem (.indexed .f .b))) s)

/-- XOR A,ES:[HL+B] (R227). -/
def execXorAEsHlB (s : State) : Host.Outcome State Fault Refusal :=
  finish (logic8 (fun a b => a ^^^ b) accA (.loc (.mem (.indexed .es .b))) s)

/-- XOR A,[HL+C] (R227). -/
def execXorAHlC (s : State) : Host.Outcome State Fault Refusal :=
  finish (logic8 (fun a b => a ^^^ b) accA (.loc (.mem (.indexed .f .c))) s)

/-- XOR A,ES:[HL+C] (R227). -/
def execXorAEsHlC (s : State) : Host.Outcome State Fault Refusal :=
  finish (logic8 (fun a b => a ^^^ b) accA (.loc (.mem (.indexed .es .c))) s)

/-- CMP !addr16,#byte (R228). -/
def execCmpAbsImm (addr : Word) (data : Byte) (s : State) : Host.Outcome State Fault Refusal :=
  finish (compare8 (.mem (.abs .f addr)) (.imm data) s)

/-- CMP ES:!addr16,#byte (R228). -/
def execCmpEsAbsImm (addr : Word) (data : Byte) (s : State) : Host.Outcome State Fault Refusal :=
  finish (compare8 (.mem (.abs .es addr)) (.imm data) s)

/-- CMP0 r (R229). -/
def execCmp0R (r : Reg) (s : State) : Host.Outcome State Fault Refusal :=
  finish (compareZero (.reg r) s)

/-- CMP0 saddr (R229). -/
def execCmp0Saddr (sa : Byte) (s : State) : Host.Outcome State Fault Refusal :=
  finish (compareZero (.mem (.saddr sa)) s)

/-- CMP0 !addr16 (R229). -/
def execCmp0Abs (addr : Word) (s : State) : Host.Outcome State Fault Refusal :=
  finish (compareZero (.mem (.abs .f addr)) s)

/-- CMP0 ES:!addr16 (R229). -/
def execCmp0EsAbs (addr : Word) (s : State) : Host.Outcome State Fault Refusal :=
  finish (compareZero (.mem (.abs .es addr)) s)

/-- CMPS X,[HL+byte] (R230). -/
def execCmpsXHlOff (off : Byte) (s : State) : Host.Outcome State Fault Refusal :=
  finish (compareString (.based .f .hl off) s)

/-- CMPS X,ES:[HL+byte] (R230). -/
def execCmpsXEsHlOff (off : Byte) (s : State) : Host.Outcome State Fault Refusal :=
  finish (compareString (.based .es .hl off) s)

end Sys2Proof.Machine
end

