-- ==== Sys2Proof/Machine/BitOps.lean ====
section
/-!
DEFINITION. Bit manipulation (47_bit.md): one meaning per row of spec/opcode_table.json.
-/

namespace Sys2Proof.Machine

/-- MOV1 CY,A.bit (R311). -/
def execMov1CyABit (bit : Fin 8) (s : State) : Host.Outcome State Fault Refusal :=
  finish (bitToCy (fun _ b => b) accA bit s)

/-- MOV1 A.bit,CY (R311). -/
def execMov1ABitCy (bit : Fin 8) (s : State) : Host.Outcome State Fault Refusal :=
  finish (putBit8 accA bit s.cy s)

/-- MOV1 CY,PSW.bit (R311). -/
def execMov1CyPswBit (bit : Fin 8) (s : State) : Host.Outcome State Fault Refusal :=
  finish (pswBitToCy (fun _ b => b) bit s)

/-- MOV1 PSW.bit,CY (R311). -/
def execMov1PswBitCy (bit : Fin 8) (s : State) : Host.Outcome State Fault Refusal :=
  finish (putPswBit bit s.cy s)

/-- MOV1 CY,saddr.bit (R311). -/
def execMov1CySaddrBit (sa : Byte) (bit : Fin 8) (s : State) : Host.Outcome State Fault Refusal :=
  finish (bitToCy (fun _ b => b) (.mem (.saddr sa)) bit s)

/-- MOV1 saddr.bit,CY (R311). -/
def execMov1SaddrBitCy (sa : Byte) (bit : Fin 8) (s : State) : Host.Outcome State Fault Refusal :=
  finish (putBit8 (.mem (.saddr sa)) bit s.cy s)

/-- MOV1 CY,sfr.bit (R311). -/
def execMov1CySfrBit (sf : Byte) (bit : Fin 8) (s : State) : Host.Outcome State Fault Refusal :=
  finish (bitToCy (fun _ b => b) (.mem (.sfr sf)) bit s)

/-- MOV1 sfr.bit,CY (R311). -/
def execMov1SfrBitCy (sf : Byte) (bit : Fin 8) (s : State) : Host.Outcome State Fault Refusal :=
  finish (putBit8 (.mem (.sfr sf)) bit s.cy s)

/-- MOV1 CY,[HL].bit (R311). -/
def execMov1CyHlBit (bit : Fin 8) (s : State) : Host.Outcome State Fault Refusal :=
  finish (bitToCy (fun _ b => b) (.mem (.indirect .f .hl)) bit s)

/-- MOV1 CY,ES:[HL].bit (R311). -/
def execMov1CyEsHlBit (bit : Fin 8) (s : State) : Host.Outcome State Fault Refusal :=
  finish (bitToCy (fun _ b => b) (.mem (.indirect .es .hl)) bit s)

/-- MOV1 [HL].bit,CY (R311). -/
def execMov1HlBitCy (bit : Fin 8) (s : State) : Host.Outcome State Fault Refusal :=
  finish (putBit8 (.mem (.indirect .f .hl)) bit s.cy s)

/-- MOV1 ES:[HL].bit,CY (R311). -/
def execMov1EsHlBitCy (bit : Fin 8) (s : State) : Host.Outcome State Fault Refusal :=
  finish (putBit8 (.mem (.indirect .es .hl)) bit s.cy s)

/-- AND1 CY,A.bit (R312). -/
def execAnd1CyABit (bit : Fin 8) (s : State) : Host.Outcome State Fault Refusal :=
  finish (bitToCy (fun c b => c && b) accA bit s)

/-- AND1 CY,PSW.bit (R312). -/
def execAnd1CyPswBit (bit : Fin 8) (s : State) : Host.Outcome State Fault Refusal :=
  finish (pswBitToCy (fun c b => c && b) bit s)

/-- AND1 CY,saddr.bit (R312). -/
def execAnd1CySaddrBit (sa : Byte) (bit : Fin 8) (s : State) : Host.Outcome State Fault Refusal :=
  finish (bitToCy (fun c b => c && b) (.mem (.saddr sa)) bit s)

/-- AND1 CY,sfr.bit (R312). -/
def execAnd1CySfrBit (sf : Byte) (bit : Fin 8) (s : State) : Host.Outcome State Fault Refusal :=
  finish (bitToCy (fun c b => c && b) (.mem (.sfr sf)) bit s)

/-- AND1 CY,[HL].bit (R312). -/
def execAnd1CyHlBit (bit : Fin 8) (s : State) : Host.Outcome State Fault Refusal :=
  finish (bitToCy (fun c b => c && b) (.mem (.indirect .f .hl)) bit s)

/-- AND1 CY,ES:[HL].bit (R312). -/
def execAnd1CyEsHlBit (bit : Fin 8) (s : State) : Host.Outcome State Fault Refusal :=
  finish (bitToCy (fun c b => c && b) (.mem (.indirect .es .hl)) bit s)

/-- OR1 CY,A.bit (R313). -/
def execOr1CyABit (bit : Fin 8) (s : State) : Host.Outcome State Fault Refusal :=
  finish (bitToCy (fun c b => c || b) accA bit s)

/-- OR1 CY,PSW.bit (R313). -/
def execOr1CyPswBit (bit : Fin 8) (s : State) : Host.Outcome State Fault Refusal :=
  finish (pswBitToCy (fun c b => c || b) bit s)

/-- OR1 CY,saddr.bit (R313). -/
def execOr1CySaddrBit (sa : Byte) (bit : Fin 8) (s : State) : Host.Outcome State Fault Refusal :=
  finish (bitToCy (fun c b => c || b) (.mem (.saddr sa)) bit s)

/-- OR1 CY,sfr.bit (R313). -/
def execOr1CySfrBit (sf : Byte) (bit : Fin 8) (s : State) : Host.Outcome State Fault Refusal :=
  finish (bitToCy (fun c b => c || b) (.mem (.sfr sf)) bit s)

/-- OR1 CY,[HL].bit (R313). -/
def execOr1CyHlBit (bit : Fin 8) (s : State) : Host.Outcome State Fault Refusal :=
  finish (bitToCy (fun c b => c || b) (.mem (.indirect .f .hl)) bit s)

/-- OR1 CY,ES:[HL].bit (R313). -/
def execOr1CyEsHlBit (bit : Fin 8) (s : State) : Host.Outcome State Fault Refusal :=
  finish (bitToCy (fun c b => c || b) (.mem (.indirect .es .hl)) bit s)

/-- XOR1 CY,A.bit (R314). -/
def execXor1CyABit (bit : Fin 8) (s : State) : Host.Outcome State Fault Refusal :=
  finish (bitToCy (fun c b => c ^^ b) accA bit s)

/-- XOR1 CY,PSW.bit (R314). -/
def execXor1CyPswBit (bit : Fin 8) (s : State) : Host.Outcome State Fault Refusal :=
  finish (pswBitToCy (fun c b => c ^^ b) bit s)

/-- XOR1 CY,saddr.bit (R314). -/
def execXor1CySaddrBit (sa : Byte) (bit : Fin 8) (s : State) : Host.Outcome State Fault Refusal :=
  finish (bitToCy (fun c b => c ^^ b) (.mem (.saddr sa)) bit s)

/-- XOR1 CY,sfr.bit (R314). -/
def execXor1CySfrBit (sf : Byte) (bit : Fin 8) (s : State) : Host.Outcome State Fault Refusal :=
  finish (bitToCy (fun c b => c ^^ b) (.mem (.sfr sf)) bit s)

/-- XOR1 CY,[HL].bit (R314). -/
def execXor1CyHlBit (bit : Fin 8) (s : State) : Host.Outcome State Fault Refusal :=
  finish (bitToCy (fun c b => c ^^ b) (.mem (.indirect .f .hl)) bit s)

/-- XOR1 CY,ES:[HL].bit (R314). -/
def execXor1CyEsHlBit (bit : Fin 8) (s : State) : Host.Outcome State Fault Refusal :=
  finish (bitToCy (fun c b => c ^^ b) (.mem (.indirect .es .hl)) bit s)

/-- SET1 A.bit (R315). -/
def execSet1ABit (bit : Fin 8) (s : State) : Host.Outcome State Fault Refusal :=
  finish (putBit8 accA bit true s)

/-- SET1 PSW.bit (R315). -/
def execSet1PswBit (bit : Fin 8) (s : State) : Host.Outcome State Fault Refusal :=
  finish (putPswBit bit true s)

/-- SET1 !addr16.bit (R315). -/
def execSet1AbsBit (addr : Word) (bit : Fin 8) (s : State) : Host.Outcome State Fault Refusal :=
  finish (putBit8 (.mem (.abs .f addr)) bit true s)

/-- SET1 ES:!addr16.bit (R315). -/
def execSet1EsAbsBit (addr : Word) (bit : Fin 8) (s : State) : Host.Outcome State Fault Refusal :=
  finish (putBit8 (.mem (.abs .es addr)) bit true s)

/-- SET1 saddr.bit (R315). -/
def execSet1SaddrBit (sa : Byte) (bit : Fin 8) (s : State) : Host.Outcome State Fault Refusal :=
  finish (putBit8 (.mem (.saddr sa)) bit true s)

/-- SET1 sfr.bit (R315). -/
def execSet1SfrBit (sf : Byte) (bit : Fin 8) (s : State) : Host.Outcome State Fault Refusal :=
  finish (putBit8 (.mem (.sfr sf)) bit true s)

/-- SET1 [HL].bit (R315). -/
def execSet1HlBit (bit : Fin 8) (s : State) : Host.Outcome State Fault Refusal :=
  finish (putBit8 (.mem (.indirect .f .hl)) bit true s)

/-- SET1 ES:[HL].bit (R315). -/
def execSet1EsHlBit (bit : Fin 8) (s : State) : Host.Outcome State Fault Refusal :=
  finish (putBit8 (.mem (.indirect .es .hl)) bit true s)

/-- CLR1 A.bit (R316). -/
def execClr1ABit (bit : Fin 8) (s : State) : Host.Outcome State Fault Refusal :=
  finish (putBit8 accA bit false s)

/-- CLR1 PSW.bit (R316). -/
def execClr1PswBit (bit : Fin 8) (s : State) : Host.Outcome State Fault Refusal :=
  finish (putPswBit bit false s)

/-- CLR1 !addr16.bit (R316). -/
def execClr1AbsBit (addr : Word) (bit : Fin 8) (s : State) : Host.Outcome State Fault Refusal :=
  finish (putBit8 (.mem (.abs .f addr)) bit false s)

/-- CLR1 ES:!addr16.bit (R316). -/
def execClr1EsAbsBit (addr : Word) (bit : Fin 8) (s : State) : Host.Outcome State Fault Refusal :=
  finish (putBit8 (.mem (.abs .es addr)) bit false s)

/-- CLR1 saddr.bit (R316). -/
def execClr1SaddrBit (sa : Byte) (bit : Fin 8) (s : State) : Host.Outcome State Fault Refusal :=
  finish (putBit8 (.mem (.saddr sa)) bit false s)

/-- CLR1 sfr.bit (R316). -/
def execClr1SfrBit (sf : Byte) (bit : Fin 8) (s : State) : Host.Outcome State Fault Refusal :=
  finish (putBit8 (.mem (.sfr sf)) bit false s)

/-- CLR1 [HL].bit (R316). -/
def execClr1HlBit (bit : Fin 8) (s : State) : Host.Outcome State Fault Refusal :=
  finish (putBit8 (.mem (.indirect .f .hl)) bit false s)

/-- CLR1 ES:[HL].bit (R316). -/
def execClr1EsHlBit (bit : Fin 8) (s : State) : Host.Outcome State Fault Refusal :=
  finish (putBit8 (.mem (.indirect .es .hl)) bit false s)

/-- SET1 CY (R315). -/
def execSet1Cy (s : State) : Host.Outcome State Fault Refusal :=
  finish (.ok (s.setCy true))

/-- CLR1 CY (R316). -/
def execClr1Cy (s : State) : Host.Outcome State Fault Refusal :=
  finish (.ok (s.setCy false))

/-- NOT1 CY (R317). -/
def execNot1Cy (s : State) : Host.Outcome State Fault Refusal :=
  finish (.ok (s.setCy (!s.cy)))

end Sys2Proof.Machine
end

