-- ==== Sys2Proof/Machine/Branch.lean ====
section
/-!
DEFINITION. Branches (49_branch_skip_control.md): one meaning per row of spec/opcode_table.json.
-/

namespace Sys2Proof.Machine

/-- BR AX (R362). -/
def execBrAx (s : State) : Host.Outcome State Fault Refusal :=
  finish (.ok (jump s (registerTarget s .ax)))

/-- BR $addr20 (R362). -/
def execBrRel8 (disp : Byte) (s : State) : Host.Outcome State Fault Refusal :=
  finish (jumpRelative s (sext8 disp))

/-- BR $!addr20 (R362). -/
def execBrRel16 (disp : Word) (s : State) : Host.Outcome State Fault Refusal :=
  finish (jumpRelative s (sext16 disp))

/-- BR !addr16 (R362). -/
def execBrAbs16 (addr : Word) (s : State) : Host.Outcome State Fault Refusal :=
  finish (.ok (jump s (addrOf 0 addr)))

/-- BR !!addr20 (R362). -/
def execBrAbs20 (target : Addr) (s : State) : Host.Outcome State Fault Refusal :=
  finish (.ok (jump s target))

/-- BC $addr20 (R363). -/
def execBc (disp : Byte) (s : State) : Host.Outcome State Fault Refusal :=
  finish (branchIf s.cy disp s)

/-- BNC $addr20 (R364). -/
def execBnc (disp : Byte) (s : State) : Host.Outcome State Fault Refusal :=
  finish (branchIf (!s.cy) disp s)

/-- BZ $addr20 (R365). -/
def execBz (disp : Byte) (s : State) : Host.Outcome State Fault Refusal :=
  finish (branchIf s.z disp s)

/-- BNZ $addr20 (R366). -/
def execBnz (disp : Byte) (s : State) : Host.Outcome State Fault Refusal :=
  finish (branchIf (!s.z) disp s)

/-- BH $addr20 (R367). -/
def execBh (disp : Byte) (s : State) : Host.Outcome State Fault Refusal :=
  finish (branchIf (!(s.z || s.cy)) disp s)

/-- BNH $addr20 (R368). -/
def execBnh (disp : Byte) (s : State) : Host.Outcome State Fault Refusal :=
  finish (branchIf (s.z || s.cy) disp s)

/-- BT saddr.bit,$addr20 (R369). -/
def execBtSaddrBit (sa : Byte) (bit : Fin 8) (disp : Byte) (s : State) : Host.Outcome State Fault Refusal :=
  finish (branchOnBit true (.mem (.saddr sa)) bit disp s)

/-- BT sfr.bit,$addr20 (R369). -/
def execBtSfrBit (sf : Byte) (bit : Fin 8) (disp : Byte) (s : State) : Host.Outcome State Fault Refusal :=
  finish (branchOnBit true (.mem (.sfr sf)) bit disp s)

/-- BT A.bit,$addr20 (R369). -/
def execBtABit (bit : Fin 8) (disp : Byte) (s : State) : Host.Outcome State Fault Refusal :=
  finish (branchOnBit true accA bit disp s)

/-- BT PSW.bit,$addr20 (R369). -/
def execBtPswBit (bit : Fin 8) (disp : Byte) (s : State) : Host.Outcome State Fault Refusal :=
  finish (branchOnPswBit true bit disp s)

/-- BT [HL].bit,$addr20 (R369). -/
def execBtHlBit (bit : Fin 8) (disp : Byte) (s : State) : Host.Outcome State Fault Refusal :=
  finish (branchOnBit true (.mem (.indirect .f .hl)) bit disp s)

/-- BT ES:[HL].bit,$addr20 (R369). -/
def execBtEsHlBit (bit : Fin 8) (disp : Byte) (s : State) : Host.Outcome State Fault Refusal :=
  finish (branchOnBit true (.mem (.indirect .es .hl)) bit disp s)

/-- BF saddr.bit,$addr20 (R370). -/
def execBfSaddrBit (sa : Byte) (bit : Fin 8) (disp : Byte) (s : State) : Host.Outcome State Fault Refusal :=
  finish (branchOnBit false (.mem (.saddr sa)) bit disp s)

/-- BF sfr.bit,$addr20 (R370). -/
def execBfSfrBit (sf : Byte) (bit : Fin 8) (disp : Byte) (s : State) : Host.Outcome State Fault Refusal :=
  finish (branchOnBit false (.mem (.sfr sf)) bit disp s)

/-- BF A.bit,$addr20 (R370). -/
def execBfABit (bit : Fin 8) (disp : Byte) (s : State) : Host.Outcome State Fault Refusal :=
  finish (branchOnBit false accA bit disp s)

/-- BF PSW.bit,$addr20 (R370). -/
def execBfPswBit (bit : Fin 8) (disp : Byte) (s : State) : Host.Outcome State Fault Refusal :=
  finish (branchOnPswBit false bit disp s)

/-- BF [HL].bit,$addr20 (R370). -/
def execBfHlBit (bit : Fin 8) (disp : Byte) (s : State) : Host.Outcome State Fault Refusal :=
  finish (branchOnBit false (.mem (.indirect .f .hl)) bit disp s)

/-- BF ES:[HL].bit,$addr20 (R370). -/
def execBfEsHlBit (bit : Fin 8) (disp : Byte) (s : State) : Host.Outcome State Fault Refusal :=
  finish (branchOnBit false (.mem (.indirect .es .hl)) bit disp s)

/-- BTCLR saddr.bit,$addr20 (R371). -/
def execBtclrSaddrBit (sa : Byte) (bit : Fin 8) (disp : Byte) (s : State) : Host.Outcome State Fault Refusal :=
  finish (branchClear (.mem (.saddr sa)) bit disp s)

/-- BTCLR sfr.bit,$addr20 (R371). -/
def execBtclrSfrBit (sf : Byte) (bit : Fin 8) (disp : Byte) (s : State) : Host.Outcome State Fault Refusal :=
  finish (branchClear (.mem (.sfr sf)) bit disp s)

/-- BTCLR A.bit,$addr20 (R371). -/
def execBtclrABit (bit : Fin 8) (disp : Byte) (s : State) : Host.Outcome State Fault Refusal :=
  finish (branchClear accA bit disp s)

/-- BTCLR PSW.bit,$addr20 (R371). -/
def execBtclrPswBit (bit : Fin 8) (disp : Byte) (s : State) : Host.Outcome State Fault Refusal :=
  finish (branchClearPswBit bit disp s)

/-- BTCLR [HL].bit,$addr20 (R371). -/
def execBtclrHlBit (bit : Fin 8) (disp : Byte) (s : State) : Host.Outcome State Fault Refusal :=
  finish (branchClear (.mem (.indirect .f .hl)) bit disp s)

/-- BTCLR ES:[HL].bit,$addr20 (R371). -/
def execBtclrEsHlBit (bit : Fin 8) (disp : Byte) (s : State) : Host.Outcome State Fault Refusal :=
  finish (branchClear (.mem (.indirect .es .hl)) bit disp s)

end Sys2Proof.Machine
end

