-- ==== Sys2Proof/Machine/CallStack.lean ====
section
/-!
DEFINITION. Calls, returns and the stack (48_call_return_stack.md): one meaning per row of spec/opcode_table.json.
-/

namespace Sys2Proof.Machine

/-- CALL rp (R331). -/
def execCallRp (rp : RegPair) (s : State) : Host.Outcome State Fault Refusal :=
  finish (call s (registerTarget s rp))

/-- CALL $!addr20 (R331). -/
def execCallRel16 (disp : Word) (s : State) : Host.Outcome State Fault Refusal :=
  finish (callRelative s (sext16 disp))

/-- CALL !addr16 (R331). -/
def execCallAbs16 (addr : Word) (s : State) : Host.Outcome State Fault Refusal :=
  finish (call s (addrOf 0 addr))

/-- CALL !!addr20 (R331). -/
def execCallAbs20 (target : Addr) (s : State) : Host.Outcome State Fault Refusal :=
  finish (call s target)

/-- CALLT [addr5] (R332). -/
def execCallt (k : Fin 32) (s : State) : Host.Outcome State Fault Refusal :=
  finish (call s (tableTarget s (0x80 + 2 * k.val)))

/-- BRK (R338). -/
def execBrk (s : State) : Host.Outcome State Fault Refusal :=
  finish (takeException s 0x7E none)

/-- RET (R333). -/
def execRet (s : State) : Host.Outcome State Fault Refusal :=
  finish (returnFromCall s)

/-- RETI (R334). -/
def execReti (s : State) : Host.Outcome State Fault Refusal :=
  finish ((returnFromException s).map (fun t => t.log .endOfService))

/-- RETB (R335). -/
def execRetb (s : State) : Host.Outcome State Fault Refusal :=
  finish (returnFromException s)

/-- PUSH PSW (R336). -/
def execPushPsw (s : State) : Host.Outcome State Fault Refusal :=
  finish (push s s.psw.toByte 0x00)

/-- PUSH rp (R336). -/
def execPushRp (rp : RegPair) (s : State) : Host.Outcome State Fault Refusal :=
  finish (push s (s.reg rp.high) (s.reg rp.low))

/-- POP PSW (R337). -/
def execPopPsw (s : State) : Host.Outcome State Fault Refusal :=
  finish (holding (popPsw s))

/-- POP rp (R337). -/
def execPopRp (rp : RegPair) (s : State) : Host.Outcome State Fault Refusal :=
  finish (popPair s rp)

/-- MOVW SP,#word (R339). -/
def execMovwSpImm (data : Word) (s : State) : Host.Outcome State Fault Refusal :=
  finish (move16 (.mem opSp) (.imm data) s)

/-- MOVW SP,AX (R339). -/
def execMovwSpAx (s : State) : Host.Outcome State Fault Refusal :=
  finish (move16 (.mem opSp) (.loc accAX) s)

/-- MOVW AX,SP (R339). -/
def execMovwAxSp (s : State) : Host.Outcome State Fault Refusal :=
  finish (move16 accAX (.loc (.mem opSp)) s)

/-- MOVW rp,SP (R339). -/
def execMovwRpSp (rp : RegPair) (s : State) : Host.Outcome State Fault Refusal :=
  finish (move16 (.pair rp) (.loc (.mem opSpAbs)) s)

/-- ADDW SP,#byte (R340). -/
def execAddwSpImm (data : Byte) (s : State) : Host.Outcome State Fault Refusal :=
  finish (.ok (s.setSp (s.sp + data.setWidth 16)))

/-- SUBW SP,#byte (R341). -/
def execSubwSpImm (data : Byte) (s : State) : Host.Outcome State Fault Refusal :=
  finish (.ok (s.setSp (s.sp - data.setWidth 16)))

end Sys2Proof.Machine
end

