-- ==== Sys2Proof/Machine/Control.lean ====
section
/-!
DEFINITION. Skips and CPU control (49_branch_skip_control.md), and the PREFIX byte (30_encoding.md R95): one meaning per row of spec/opcode_table.json.
-/

namespace Sys2Proof.Machine

/-- SKC (R376). -/
def execSkc (s : State) : Host.Outcome State Fault Refusal :=
  finish (skipIf s.cy s)

/-- SKNC (R377). -/
def execSknc (s : State) : Host.Outcome State Fault Refusal :=
  finish (skipIf (!s.cy) s)

/-- SKZ (R378). -/
def execSkz (s : State) : Host.Outcome State Fault Refusal :=
  finish (skipIf s.z s)

/-- SKNZ (R379). -/
def execSknz (s : State) : Host.Outcome State Fault Refusal :=
  finish (skipIf (!s.z) s)

/-- SKH (R380). -/
def execSkh (s : State) : Host.Outcome State Fault Refusal :=
  finish (skipIf (!(s.z || s.cy)) s)

/-- SKNH (R381). -/
def execSknh (s : State) : Host.Outcome State Fault Refusal :=
  finish (skipIf (s.z || s.cy) s)

/-- SEL RBn (R386). -/
def execSel (n : BankNo) (s : State) : Host.Outcome State Fault Refusal :=
  finish (if s.cfg.core = .s1 then .error (.refused .notOnThisCore)
    else .ok { s with psw := { s.psw with rbs1 := bitOf n.code 1, rbs0 := bitOf n.code 0 } })

/-- NOP (R384). -/
def execNop (s : State) : Host.Outcome State Fault Refusal :=
  finish (.ok s)

/-- EI (R385). -/
def execEi (s : State) : Host.Outcome State Fault Refusal :=
  finish (putPswBit 7 true s)

/-- DI (R387). -/
def execDi (s : State) : Host.Outcome State Fault Refusal :=
  finish (putPswBit 7 false s)

/-- HALT (R389). -/
def execHalt (s : State) : Host.Outcome State Fault Refusal :=
  finish (.ok { s with mode := .halt })

/-- STOP (R390). -/
def execStop (s : State) : Host.Outcome State Fault Refusal :=
  finish (.ok { s with mode := .stop })

/-- PREFIX before bytes that have no `ES:` form: refused (R95; D27). -/
def execPrefixByte (_s : State) : Host.Outcome State Fault Refusal :=
  finish (.error (.refused .prefixWithoutEsForm))

end Sys2Proof.Machine
end

