-- ==== Sys2Proof/Machine/IncDec.lean ====
section
/-!
DEFINITION. Increment and decrement (45_incdec.md): one meaning per row of spec/opcode_table.json.
-/

namespace Sys2Proof.Machine

/-- INC r (R280). -/
def execIncR (r : Reg) (s : State) : Host.Outcome State Fault Refusal :=
  finish (step8 inc8 (.reg r) s)

/-- INC saddr (R280). -/
def execIncSaddr (sa : Byte) (s : State) : Host.Outcome State Fault Refusal :=
  finish (step8 inc8 (.mem (.saddr sa)) s)

/-- INC !addr16 (R280). -/
def execIncAbs (addr : Word) (s : State) : Host.Outcome State Fault Refusal :=
  finish (step8 inc8 (.mem (.abs .f addr)) s)

/-- INC ES:!addr16 (R280). -/
def execIncEsAbs (addr : Word) (s : State) : Host.Outcome State Fault Refusal :=
  finish (step8 inc8 (.mem (.abs .es addr)) s)

/-- INC [HL+byte] (R280). -/
def execIncHlOff (off : Byte) (s : State) : Host.Outcome State Fault Refusal :=
  finish (step8 inc8 (.mem (.based .f .hl off)) s)

/-- INC ES:[HL+byte] (R280). -/
def execIncEsHlOff (off : Byte) (s : State) : Host.Outcome State Fault Refusal :=
  finish (step8 inc8 (.mem (.based .es .hl off)) s)

/-- DEC r (R281). -/
def execDecR (r : Reg) (s : State) : Host.Outcome State Fault Refusal :=
  finish (step8 dec8 (.reg r) s)

/-- DEC saddr (R281). -/
def execDecSaddr (sa : Byte) (s : State) : Host.Outcome State Fault Refusal :=
  finish (step8 dec8 (.mem (.saddr sa)) s)

/-- DEC !addr16 (R281). -/
def execDecAbs (addr : Word) (s : State) : Host.Outcome State Fault Refusal :=
  finish (step8 dec8 (.mem (.abs .f addr)) s)

/-- DEC ES:!addr16 (R281). -/
def execDecEsAbs (addr : Word) (s : State) : Host.Outcome State Fault Refusal :=
  finish (step8 dec8 (.mem (.abs .es addr)) s)

/-- DEC [HL+byte] (R281). -/
def execDecHlOff (off : Byte) (s : State) : Host.Outcome State Fault Refusal :=
  finish (step8 dec8 (.mem (.based .f .hl off)) s)

/-- DEC ES:[HL+byte] (R281). -/
def execDecEsHlOff (off : Byte) (s : State) : Host.Outcome State Fault Refusal :=
  finish (step8 dec8 (.mem (.based .es .hl off)) s)

/-- INCW rp (R282). -/
def execIncwRp (rp : RegPair) (s : State) : Host.Outcome State Fault Refusal :=
  finish (step16 (fun v => v + 1) (.pair rp) s)

/-- INCW saddrp (R282). -/
def execIncwSaddrp (sa : Byte) (s : State) : Host.Outcome State Fault Refusal :=
  finish (step16 (fun v => v + 1) (.mem (.saddr sa)) s)

/-- INCW !addr16 (R282). -/
def execIncwAbs (addr : Word) (s : State) : Host.Outcome State Fault Refusal :=
  finish (step16 (fun v => v + 1) (.mem (.abs .f addr)) s)

/-- INCW ES:!addr16 (R282). -/
def execIncwEsAbs (addr : Word) (s : State) : Host.Outcome State Fault Refusal :=
  finish (step16 (fun v => v + 1) (.mem (.abs .es addr)) s)

/-- INCW [HL+byte] (R282). -/
def execIncwHlOff (off : Byte) (s : State) : Host.Outcome State Fault Refusal :=
  finish (step16 (fun v => v + 1) (.mem (.based .f .hl off)) s)

/-- INCW ES:[HL+byte] (R282). -/
def execIncwEsHlOff (off : Byte) (s : State) : Host.Outcome State Fault Refusal :=
  finish (step16 (fun v => v + 1) (.mem (.based .es .hl off)) s)

/-- DECW rp (R283). -/
def execDecwRp (rp : RegPair) (s : State) : Host.Outcome State Fault Refusal :=
  finish (step16 (fun v => v - 1) (.pair rp) s)

/-- DECW saddrp (R283). -/
def execDecwSaddrp (sa : Byte) (s : State) : Host.Outcome State Fault Refusal :=
  finish (step16 (fun v => v - 1) (.mem (.saddr sa)) s)

/-- DECW !addr16 (R283). -/
def execDecwAbs (addr : Word) (s : State) : Host.Outcome State Fault Refusal :=
  finish (step16 (fun v => v - 1) (.mem (.abs .f addr)) s)

/-- DECW ES:!addr16 (R283). -/
def execDecwEsAbs (addr : Word) (s : State) : Host.Outcome State Fault Refusal :=
  finish (step16 (fun v => v - 1) (.mem (.abs .es addr)) s)

/-- DECW [HL+byte] (R283). -/
def execDecwHlOff (off : Byte) (s : State) : Host.Outcome State Fault Refusal :=
  finish (step16 (fun v => v - 1) (.mem (.based .f .hl off)) s)

/-- DECW ES:[HL+byte] (R283). -/
def execDecwEsHlOff (off : Byte) (s : State) : Host.Outcome State Fault Refusal :=
  finish (step16 (fun v => v - 1) (.mem (.based .es .hl off)) s)

end Sys2Proof.Machine
end

