-- ==== Sys2Proof/Machine/MulDiv.lean ====
section
/-!
DEFINITION. Multiplication, division, multiply-accumulate (44_muldiv.md): one meaning per row of spec/opcode_table.json.
-/

namespace Sys2Proof.Machine

/-- MULU X (R261). -/
def execMuluX (s : State) : Host.Outcome State Fault Refusal :=
  finish (.ok (s.setPair .ax (BitVec.ofNat 16 ((s.reg .a).toNat * (s.reg .x).toNat))))

/-- MULHU (R262). -/
def execMulhu (s : State) : Host.Outcome State Fault Refusal :=
  finish (onS3 s (s.setPairs .bc .ax (BitVec.ofNat 32 ((s.pair .ax).toNat * (s.pair .bc).toNat))))

/-- MULH (R263). -/
def execMulh (s : State) : Host.Outcome State Fault Refusal :=
  finish (onS3 s (s.setPairs .bc .ax (BitVec.ofInt 32 ((s.pair .ax).toInt * (s.pair .bc).toInt))))

/-- DIVHU (R264). -/
def execDivhu (s : State) : Host.Outcome State Fault Refusal :=
  finish (onS3 s (markDivision
    (if s.pair .de = 0 then (s.setPair .de (s.pair .ax)).setPair .ax 0xFFFF
     else (s.setPair .de (s.pair .ax % s.pair .de)).setPair .ax (s.pair .ax / s.pair .de))))

/-- DIVWU (R265). -/
def execDivwu (s : State) : Host.Outcome State Fault Refusal :=
  finish (onS3 s (markDivision
    (if s.pairs .hl .de = 0 then (s.setPairs .hl .de (s.pairs .bc .ax)).setPairs .bc .ax 0xFFFFFFFF
     else (s.setPairs .hl .de (s.pairs .bc .ax % s.pairs .hl .de)).setPairs .bc .ax
      (s.pairs .bc .ax / s.pairs .hl .de))))

/-- MACHU (R266). -/
def execMachu (s : State) : Host.Outcome State Fault Refusal :=
  finish (onS3 s (let r := macUnsigned s.macr (s.pair .ax) (s.pair .bc)
    ({ s with macr := r.1 }.setAc false).setCy r.2))

/-- MACH (R267). -/
def execMach (s : State) : Host.Outcome State Fault Refusal :=
  finish (onS3 s (let r := macSigned s.macr (s.pair .ax) (s.pair .bc)
    ({ s with macr := r.1 }.setAc (r.1.getLsbD 31)).setCy r.2))

end Sys2Proof.Machine
end

