-- ==== Sys2Proof/Machine/ShiftRotate.lean ====
section
/-!
DEFINITION. Shifts and rotates (46_shift_rotate.md): one meaning per row of spec/opcode_table.json.
-/

namespace Sys2Proof.Machine

/-- SHR A,cnt (R291). -/
def execShrA (cnt : Fin 16) (s : State) : Host.Outcome State Fault Refusal :=
  finish (shiftReg (fun v => shiftRight v cnt.val) .a s)

/-- SHRW AX,cnt (R292). -/
def execShrwAx (cnt : Fin 16) (s : State) : Host.Outcome State Fault Refusal :=
  finish (shiftPair (fun v => shiftRight v cnt.val) .ax s)

/-- SHL A,cnt (R293). -/
def execShlA (cnt : Fin 16) (s : State) : Host.Outcome State Fault Refusal :=
  finish (shiftReg (fun v => shiftLeft v cnt.val) .a s)

/-- SHL B,cnt (R293). -/
def execShlB (cnt : Fin 16) (s : State) : Host.Outcome State Fault Refusal :=
  finish (shiftReg (fun v => shiftLeft v cnt.val) .b s)

/-- SHL C,cnt (R293). -/
def execShlC (cnt : Fin 16) (s : State) : Host.Outcome State Fault Refusal :=
  finish (shiftReg (fun v => shiftLeft v cnt.val) .c s)

/-- SHLW AX,cnt (R294). -/
def execShlwAx (cnt : Fin 16) (s : State) : Host.Outcome State Fault Refusal :=
  finish (shiftPair (fun v => shiftLeft v cnt.val) .ax s)

/-- SHLW BC,cnt (R294). -/
def execShlwBc (cnt : Fin 16) (s : State) : Host.Outcome State Fault Refusal :=
  finish (shiftPair (fun v => shiftLeft v cnt.val) .bc s)

/-- SAR A,cnt (R295). -/
def execSarA (cnt : Fin 16) (s : State) : Host.Outcome State Fault Refusal :=
  finish (shiftReg (fun v => shiftArith v cnt.val) .a s)

/-- SARW AX,cnt (R296). -/
def execSarwAx (cnt : Fin 16) (s : State) : Host.Outcome State Fault Refusal :=
  finish (shiftPair (fun v => shiftArith v cnt.val) .ax s)

/-- ROR A,1 (R297). -/
def execRorA (s : State) : Host.Outcome State Fault Refusal :=
  finish (shiftReg (fun v => rotateRightIn v (v.getLsbD 0)) .a s)

/-- ROL A,1 (R298). -/
def execRolA (s : State) : Host.Outcome State Fault Refusal :=
  finish (shiftReg (fun v => rotateLeftIn v (v.getLsbD 7)) .a s)

/-- RORC A,1 (R299). -/
def execRorcA (s : State) : Host.Outcome State Fault Refusal :=
  finish (shiftReg (fun v => rotateRightIn v s.cy) .a s)

/-- ROLC A,1 (R300). -/
def execRolcA (s : State) : Host.Outcome State Fault Refusal :=
  finish (shiftReg (fun v => rotateLeftIn v s.cy) .a s)

/-- ROLWC AX,1 (R301). -/
def execRolwcAx (s : State) : Host.Outcome State Fault Refusal :=
  finish (shiftPair (fun v => rotateLeftIn v s.cy) .ax s)

/-- ROLWC BC,1 (R301). -/
def execRolwcBc (s : State) : Host.Outcome State Fault Refusal :=
  finish (shiftPair (fun v => rotateLeftIn v s.cy) .bc s)

end Sys2Proof.Machine
end

