-- ==== Sys2Proof/Machine/Transfer16.lean ====
section
/-!
DEFINITION. 16-bit transfers (41_transfer16.md): one meaning per row of spec/opcode_table.json.
-/

namespace Sys2Proof.Machine

/-- MOVW rp,#word (R201). -/
def execMovwRpImm (rp : RegPair) (data : Word) (s : State) : Host.Outcome State Fault Refusal :=
  finish (move16 (.pair rp) (.imm data) s)

/-- MOVW saddrp,#word (R201). -/
def execMovwSaddrpImm (sa : Byte) (data : Word) (s : State) : Host.Outcome State Fault Refusal :=
  finish (move16 (.mem (.saddr sa)) (.imm data) s)

/-- MOVW sfrp,#word (R201). -/
def execMovwSfrpImm (sf : Byte) (data : Word) (s : State) : Host.Outcome State Fault Refusal :=
  finish (move16 (.mem (.sfr sf)) (.imm data) s)

/-- MOVW AX,saddrp (R201). -/
def execMovwAxSaddrp (sa : Byte) (s : State) : Host.Outcome State Fault Refusal :=
  finish (move16 accAX (.loc (.mem (.saddr sa))) s)

/-- MOVW saddrp,AX (R201). -/
def execMovwSaddrpAx (sa : Byte) (s : State) : Host.Outcome State Fault Refusal :=
  finish (move16 (.mem (.saddr sa)) (.loc accAX) s)

/-- MOVW AX,sfrp (R201). -/
def execMovwAxSfrp (sf : Byte) (s : State) : Host.Outcome State Fault Refusal :=
  finish (move16 accAX (.loc (.mem (.sfr sf))) s)

/-- MOVW sfrp,AX (R201). -/
def execMovwSfrpAx (sf : Byte) (s : State) : Host.Outcome State Fault Refusal :=
  finish (move16 (.mem (.sfr sf)) (.loc accAX) s)

/-- MOVW AX,rp (R201). -/
def execMovwAxRp (rp : RegPair) (s : State) : Host.Outcome State Fault Refusal :=
  finish (move16 accAX (.loc (.pair rp)) s)

/-- MOVW rp,AX (R201). -/
def execMovwRpAx (rp : RegPair) (s : State) : Host.Outcome State Fault Refusal :=
  finish (move16 (.pair rp) (.loc accAX) s)

/-- MOVW AX,!addr16 (R201). -/
def execMovwAxAbs (addr : Word) (s : State) : Host.Outcome State Fault Refusal :=
  finish (move16 accAX (.loc (.mem (.abs .f addr))) s)

/-- MOVW AX,ES:!addr16 (R201). -/
def execMovwAxEsAbs (addr : Word) (s : State) : Host.Outcome State Fault Refusal :=
  finish (move16 accAX (.loc (.mem (.abs .es addr))) s)

/-- MOVW !addr16,AX (R201). -/
def execMovwAbsAx (addr : Word) (s : State) : Host.Outcome State Fault Refusal :=
  finish (move16 (.mem (.abs .f addr)) (.loc accAX) s)

/-- MOVW ES:!addr16,AX (R201). -/
def execMovwEsAbsAx (addr : Word) (s : State) : Host.Outcome State Fault Refusal :=
  finish (move16 (.mem (.abs .es addr)) (.loc accAX) s)

/-- MOVW AX,[DE] (R201). -/
def execMovwAxAtDe (s : State) : Host.Outcome State Fault Refusal :=
  finish (move16 accAX (.loc (.mem (.indirect .f .de))) s)

/-- MOVW AX,ES:[DE] (R201). -/
def execMovwAxEsAtDe (s : State) : Host.Outcome State Fault Refusal :=
  finish (move16 accAX (.loc (.mem (.indirect .es .de))) s)

/-- MOVW [DE],AX (R201). -/
def execMovwAtDeAx (s : State) : Host.Outcome State Fault Refusal :=
  finish (move16 (.mem (.indirect .f .de)) (.loc accAX) s)

/-- MOVW ES:[DE],AX (R201). -/
def execMovwEsAtDeAx (s : State) : Host.Outcome State Fault Refusal :=
  finish (move16 (.mem (.indirect .es .de)) (.loc accAX) s)

/-- MOVW AX,[DE+byte] (R201). -/
def execMovwAxDeOff (off : Byte) (s : State) : Host.Outcome State Fault Refusal :=
  finish (move16 accAX (.loc (.mem (.based .f .de off))) s)

/-- MOVW AX,ES:[DE+byte] (R201). -/
def execMovwAxEsDeOff (off : Byte) (s : State) : Host.Outcome State Fault Refusal :=
  finish (move16 accAX (.loc (.mem (.based .es .de off))) s)

/-- MOVW [DE+byte],AX (R201). -/
def execMovwDeOffAx (off : Byte) (s : State) : Host.Outcome State Fault Refusal :=
  finish (move16 (.mem (.based .f .de off)) (.loc accAX) s)

/-- MOVW ES:[DE+byte],AX (R201). -/
def execMovwEsDeOffAx (off : Byte) (s : State) : Host.Outcome State Fault Refusal :=
  finish (move16 (.mem (.based .es .de off)) (.loc accAX) s)

/-- MOVW AX,[HL] (R201). -/
def execMovwAxAtHl (s : State) : Host.Outcome State Fault Refusal :=
  finish (move16 accAX (.loc (.mem (.indirect .f .hl))) s)

/-- MOVW AX,ES:[HL] (R201). -/
def execMovwAxEsAtHl (s : State) : Host.Outcome State Fault Refusal :=
  finish (move16 accAX (.loc (.mem (.indirect .es .hl))) s)

/-- MOVW [HL],AX (R201). -/
def execMovwAtHlAx (s : State) : Host.Outcome State Fault Refusal :=
  finish (move16 (.mem (.indirect .f .hl)) (.loc accAX) s)

/-- MOVW ES:[HL],AX (R201). -/
def execMovwEsAtHlAx (s : State) : Host.Outcome State Fault Refusal :=
  finish (move16 (.mem (.indirect .es .hl)) (.loc accAX) s)

/-- MOVW AX,[HL+byte] (R201). -/
def execMovwAxHlOff (off : Byte) (s : State) : Host.Outcome State Fault Refusal :=
  finish (move16 accAX (.loc (.mem (.based .f .hl off))) s)

/-- MOVW AX,ES:[HL+byte] (R201). -/
def execMovwAxEsHlOff (off : Byte) (s : State) : Host.Outcome State Fault Refusal :=
  finish (move16 accAX (.loc (.mem (.based .es .hl off))) s)

/-- MOVW [HL+byte],AX (R201). -/
def execMovwHlOffAx (off : Byte) (s : State) : Host.Outcome State Fault Refusal :=
  finish (move16 (.mem (.based .f .hl off)) (.loc accAX) s)

/-- MOVW ES:[HL+byte],AX (R201). -/
def execMovwEsHlOffAx (off : Byte) (s : State) : Host.Outcome State Fault Refusal :=
  finish (move16 (.mem (.based .es .hl off)) (.loc accAX) s)

/-- MOVW AX,word[B] (R201). -/
def execMovwAxWordB (base : Word) (s : State) : Host.Outcome State Fault Refusal :=
  finish (move16 accAX (.loc (.mem (.wordReg .f base .b))) s)

/-- MOVW AX,ES:word[B] (R201). -/
def execMovwAxEsWordB (base : Word) (s : State) : Host.Outcome State Fault Refusal :=
  finish (move16 accAX (.loc (.mem (.wordReg .es base .b))) s)

/-- MOVW word[B],AX (R201). -/
def execMovwWordBAx (base : Word) (s : State) : Host.Outcome State Fault Refusal :=
  finish (move16 (.mem (.wordReg .f base .b)) (.loc accAX) s)

/-- MOVW ES:word[B],AX (R201). -/
def execMovwEsWordBAx (base : Word) (s : State) : Host.Outcome State Fault Refusal :=
  finish (move16 (.mem (.wordReg .es base .b)) (.loc accAX) s)

/-- MOVW AX,word[C] (R201). -/
def execMovwAxWordC (base : Word) (s : State) : Host.Outcome State Fault Refusal :=
  finish (move16 accAX (.loc (.mem (.wordReg .f base .c))) s)

/-- MOVW AX,ES:word[C] (R201). -/
def execMovwAxEsWordC (base : Word) (s : State) : Host.Outcome State Fault Refusal :=
  finish (move16 accAX (.loc (.mem (.wordReg .es base .c))) s)

/-- MOVW word[C],AX (R201). -/
def execMovwWordCAx (base : Word) (s : State) : Host.Outcome State Fault Refusal :=
  finish (move16 (.mem (.wordReg .f base .c)) (.loc accAX) s)

/-- MOVW ES:word[C],AX (R201). -/
def execMovwEsWordCAx (base : Word) (s : State) : Host.Outcome State Fault Refusal :=
  finish (move16 (.mem (.wordReg .es base .c)) (.loc accAX) s)

/-- MOVW AX,word[BC] (R201). -/
def execMovwAxWordBc (base : Word) (s : State) : Host.Outcome State Fault Refusal :=
  finish (move16 accAX (.loc (.mem (.wordBc .f base))) s)

/-- MOVW AX,ES:word[BC] (R201). -/
def execMovwAxEsWordBc (base : Word) (s : State) : Host.Outcome State Fault Refusal :=
  finish (move16 accAX (.loc (.mem (.wordBc .es base))) s)

/-- MOVW word[BC],AX (R201). -/
def execMovwWordBcAx (base : Word) (s : State) : Host.Outcome State Fault Refusal :=
  finish (move16 (.mem (.wordBc .f base)) (.loc accAX) s)

/-- MOVW ES:word[BC],AX (R201). -/
def execMovwEsWordBcAx (base : Word) (s : State) : Host.Outcome State Fault Refusal :=
  finish (move16 (.mem (.wordBc .es base)) (.loc accAX) s)

/-- MOVW AX,[SP+byte] (R201). -/
def execMovwAxSpOff (off : Byte) (s : State) : Host.Outcome State Fault Refusal :=
  finish (move16 accAX (.loc (.mem (.spOff off))) s)

/-- MOVW [SP+byte],AX (R201). -/
def execMovwSpOffAx (off : Byte) (s : State) : Host.Outcome State Fault Refusal :=
  finish (move16 (.mem (.spOff off)) (.loc accAX) s)

/-- MOVW rp,saddrp (R201). -/
def execMovwRpSaddrp (rp : RegPair) (sa : Byte) (s : State) : Host.Outcome State Fault Refusal :=
  finish (move16 (.pair rp) (.loc (.mem (.saddr sa))) s)

/-- MOVW rp,!addr16 (R201). -/
def execMovwRpAbs (rp : RegPair) (addr : Word) (s : State) : Host.Outcome State Fault Refusal :=
  finish (move16 (.pair rp) (.loc (.mem (.abs .f addr))) s)

/-- MOVW rp,ES:!addr16 (R201). -/
def execMovwRpEsAbs (rp : RegPair) (addr : Word) (s : State) : Host.Outcome State Fault Refusal :=
  finish (move16 (.pair rp) (.loc (.mem (.abs .es addr))) s)

/-- XCHW AX,rp (R202). -/
def execXchwAxRp (rp : RegPair) (s : State) : Host.Outcome State Fault Refusal :=
  finish (exchangePair rp s)

/-- ONEW AX (R203). -/
def execOnewAx (s : State) : Host.Outcome State Fault Refusal :=
  finish (move16 accAX (.imm 0x0001) s)

/-- ONEW BC (R203). -/
def execOnewBc (s : State) : Host.Outcome State Fault Refusal :=
  finish (move16 (.pair .bc) (.imm 0x0001) s)

/-- CLRW AX (R204). -/
def execClrwAx (s : State) : Host.Outcome State Fault Refusal :=
  finish (move16 accAX (.imm 0x0000) s)

/-- CLRW BC (R204). -/
def execClrwBc (s : State) : Host.Outcome State Fault Refusal :=
  finish (move16 (.pair .bc) (.imm 0x0000) s)

end Sys2Proof.Machine
end

