-- ==== Sys2Proof/Machine/Transfer8.lean ====
section
/-!
DEFINITION. 8-bit transfers (40_transfer8.md): one meaning per row of spec/opcode_table.json.
-/

namespace Sys2Proof.Machine

/-- MOV r,#byte (R171). -/
def execMovRImm (r : Reg) (data : Byte) (s : State) : Host.Outcome State Fault Refusal :=
  finish (move8 (.reg r) (.imm data) s)

/-- MOV saddr,#byte (R171). -/
def execMovSaddrImm (sa : Byte) (data : Byte) (s : State) : Host.Outcome State Fault Refusal :=
  finish (move8 (.mem (.saddr sa)) (.imm data) s)

/-- MOV sfr,#byte (R171). -/
def execMovSfrImm (sf : Byte) (data : Byte) (s : State) : Host.Outcome State Fault Refusal :=
  finish (move8 (.mem (.sfr sf)) (.imm data) s)

/-- MOV !addr16,#byte (R171). -/
def execMovAbsImm (addr : Word) (data : Byte) (s : State) : Host.Outcome State Fault Refusal :=
  finish (move8 (.mem (.abs .f addr)) (.imm data) s)

/-- MOV ES:!addr16,#byte (R171). -/
def execMovEsAbsImm (addr : Word) (data : Byte) (s : State) : Host.Outcome State Fault Refusal :=
  finish (move8 (.mem (.abs .es addr)) (.imm data) s)

/-- MOV A,r (R171). -/
def execMovAR (r : Reg) (s : State) : Host.Outcome State Fault Refusal :=
  finish (move8 accA (.loc (.reg r)) s)

/-- MOV r,A (R171). -/
def execMovRA (r : Reg) (s : State) : Host.Outcome State Fault Refusal :=
  finish (move8 (.reg r) (.loc accA) s)

/-- MOV A,saddr (R171). -/
def execMovASaddr (sa : Byte) (s : State) : Host.Outcome State Fault Refusal :=
  finish (move8 accA (.loc (.mem (.saddr sa))) s)

/-- MOV saddr,A (R171). -/
def execMovSaddrA (sa : Byte) (s : State) : Host.Outcome State Fault Refusal :=
  finish (move8 (.mem (.saddr sa)) (.loc accA) s)

/-- MOV A,sfr (R171). -/
def execMovASfr (sf : Byte) (s : State) : Host.Outcome State Fault Refusal :=
  finish (move8 accA (.loc (.mem (.sfr sf))) s)

/-- MOV sfr,A (R171). -/
def execMovSfrA (sf : Byte) (s : State) : Host.Outcome State Fault Refusal :=
  finish (move8 (.mem (.sfr sf)) (.loc accA) s)

/-- MOV A,!addr16 (R171). -/
def execMovAAbs (addr : Word) (s : State) : Host.Outcome State Fault Refusal :=
  finish (move8 accA (.loc (.mem (.abs .f addr))) s)

/-- MOV A,ES:!addr16 (R171). -/
def execMovAEsAbs (addr : Word) (s : State) : Host.Outcome State Fault Refusal :=
  finish (move8 accA (.loc (.mem (.abs .es addr))) s)

/-- MOV !addr16,A (R171). -/
def execMovAbsA (addr : Word) (s : State) : Host.Outcome State Fault Refusal :=
  finish (move8 (.mem (.abs .f addr)) (.loc accA) s)

/-- MOV ES:!addr16,A (R171). -/
def execMovEsAbsA (addr : Word) (s : State) : Host.Outcome State Fault Refusal :=
  finish (move8 (.mem (.abs .es addr)) (.loc accA) s)

/-- MOV PSW,#byte (R172). -/
def execMovPswImm (data : Byte) (s : State) : Host.Outcome State Fault Refusal :=
  finish (holding (move8 (.mem opPsw) (.imm data) s))

/-- MOV A,PSW (R172). -/
def execMovAPsw (s : State) : Host.Outcome State Fault Refusal :=
  finish (move8 accA (.loc (.mem opPsw)) s)

/-- MOV PSW,A (R172). -/
def execMovPswA (s : State) : Host.Outcome State Fault Refusal :=
  finish (holding (move8 (.mem opPsw) (.loc accA) s))

/-- MOV ES,#byte (R173). -/
def execMovEsImm (data : Byte) (s : State) : Host.Outcome State Fault Refusal :=
  finish (move8 (.mem opEs) (.imm data) s)

/-- MOV ES,saddr (R173). -/
def execMovEsSaddr (sa : Byte) (s : State) : Host.Outcome State Fault Refusal :=
  finish (move8 (.mem opEs) (.loc (.mem (.saddr sa))) s)

/-- MOV A,ES (R173). -/
def execMovAEs (s : State) : Host.Outcome State Fault Refusal :=
  finish (move8 accA (.loc (.mem opEs)) s)

/-- MOV ES,A (R173). -/
def execMovEsA (s : State) : Host.Outcome State Fault Refusal :=
  finish (move8 (.mem opEs) (.loc accA) s)

/-- MOV CS,#byte (R173). -/
def execMovCsImm (data : Byte) (s : State) : Host.Outcome State Fault Refusal :=
  finish (move8 (.mem opCs) (.imm data) s)

/-- MOV A,CS (R173). -/
def execMovACs (s : State) : Host.Outcome State Fault Refusal :=
  finish (move8 accA (.loc (.mem opCs)) s)

/-- MOV CS,A (R173). -/
def execMovCsA (s : State) : Host.Outcome State Fault Refusal :=
  finish (move8 (.mem opCs) (.loc accA) s)

/-- MOV A,[DE] (R171). -/
def execMovAAtDe (s : State) : Host.Outcome State Fault Refusal :=
  finish (move8 accA (.loc (.mem (.indirect .f .de))) s)

/-- MOV A,ES:[DE] (R171). -/
def execMovAEsAtDe (s : State) : Host.Outcome State Fault Refusal :=
  finish (move8 accA (.loc (.mem (.indirect .es .de))) s)

/-- MOV [DE],A (R171). -/
def execMovAtDeA (s : State) : Host.Outcome State Fault Refusal :=
  finish (move8 (.mem (.indirect .f .de)) (.loc accA) s)

/-- MOV ES:[DE],A (R171). -/
def execMovEsAtDeA (s : State) : Host.Outcome State Fault Refusal :=
  finish (move8 (.mem (.indirect .es .de)) (.loc accA) s)

/-- MOV [DE+byte],#byte (R171). -/
def execMovDeOffImm (off : Byte) (data : Byte) (s : State) : Host.Outcome State Fault Refusal :=
  finish (move8 (.mem (.based .f .de off)) (.imm data) s)

/-- MOV ES:[DE+byte],#byte (R171). -/
def execMovEsDeOffImm (off : Byte) (data : Byte) (s : State) : Host.Outcome State Fault Refusal :=
  finish (move8 (.mem (.based .es .de off)) (.imm data) s)

/-- MOV A,[DE+byte] (R171). -/
def execMovADeOff (off : Byte) (s : State) : Host.Outcome State Fault Refusal :=
  finish (move8 accA (.loc (.mem (.based .f .de off))) s)

/-- MOV A,ES:[DE+byte] (R171). -/
def execMovAEsDeOff (off : Byte) (s : State) : Host.Outcome State Fault Refusal :=
  finish (move8 accA (.loc (.mem (.based .es .de off))) s)

/-- MOV [DE+byte],A (R171). -/
def execMovDeOffA (off : Byte) (s : State) : Host.Outcome State Fault Refusal :=
  finish (move8 (.mem (.based .f .de off)) (.loc accA) s)

/-- MOV ES:[DE+byte],A (R171). -/
def execMovEsDeOffA (off : Byte) (s : State) : Host.Outcome State Fault Refusal :=
  finish (move8 (.mem (.based .es .de off)) (.loc accA) s)

/-- MOV A,[HL] (R171). -/
def execMovAAtHl (s : State) : Host.Outcome State Fault Refusal :=
  finish (move8 accA (.loc (.mem (.indirect .f .hl))) s)

/-- MOV A,ES:[HL] (R171). -/
def execMovAEsAtHl (s : State) : Host.Outcome State Fault Refusal :=
  finish (move8 accA (.loc (.mem (.indirect .es .hl))) s)

/-- MOV [HL],A (R171). -/
def execMovAtHlA (s : State) : Host.Outcome State Fault Refusal :=
  finish (move8 (.mem (.indirect .f .hl)) (.loc accA) s)

/-- MOV ES:[HL],A (R171). -/
def execMovEsAtHlA (s : State) : Host.Outcome State Fault Refusal :=
  finish (move8 (.mem (.indirect .es .hl)) (.loc accA) s)

/-- MOV [HL+byte],#byte (R171). -/
def execMovHlOffImm (off : Byte) (data : Byte) (s : State) : Host.Outcome State Fault Refusal :=
  finish (move8 (.mem (.based .f .hl off)) (.imm data) s)

/-- MOV ES:[HL+byte],#byte (R171). -/
def execMovEsHlOffImm (off : Byte) (data : Byte) (s : State) : Host.Outcome State Fault Refusal :=
  finish (move8 (.mem (.based .es .hl off)) (.imm data) s)

/-- MOV A,[HL+byte] (R171). -/
def execMovAHlOff (off : Byte) (s : State) : Host.Outcome State Fault Refusal :=
  finish (move8 accA (.loc (.mem (.based .f .hl off))) s)

/-- MOV A,ES:[HL+byte] (R171). -/
def execMovAEsHlOff (off : Byte) (s : State) : Host.Outcome State Fault Refusal :=
  finish (move8 accA (.loc (.mem (.based .es .hl off))) s)

/-- MOV [HL+byte],A (R171). -/
def execMovHlOffA (off : Byte) (s : State) : Host.Outcome State Fault Refusal :=
  finish (move8 (.mem (.based .f .hl off)) (.loc accA) s)

/-- MOV ES:[HL+byte],A (R171). -/
def execMovEsHlOffA (off : Byte) (s : State) : Host.Outcome State Fault Refusal :=
  finish (move8 (.mem (.based .es .hl off)) (.loc accA) s)

/-- MOV A,[HL+B] (R171). -/
def execMovAHlB (s : State) : Host.Outcome State Fault Refusal :=
  finish (move8 accA (.loc (.mem (.indexed .f .b))) s)

/-- MOV A,ES:[HL+B] (R171). -/
def execMovAEsHlB (s : State) : Host.Outcome State Fault Refusal :=
  finish (move8 accA (.loc (.mem (.indexed .es .b))) s)

/-- MOV [HL+B],A (R171). -/
def execMovHlBA (s : State) : Host.Outcome State Fault Refusal :=
  finish (move8 (.mem (.indexed .f .b)) (.loc accA) s)

/-- MOV ES:[HL+B],A (R171). -/
def execMovEsHlBA (s : State) : Host.Outcome State Fault Refusal :=
  finish (move8 (.mem (.indexed .es .b)) (.loc accA) s)

/-- MOV A,[HL+C] (R171). -/
def execMovAHlC (s : State) : Host.Outcome State Fault Refusal :=
  finish (move8 accA (.loc (.mem (.indexed .f .c))) s)

/-- MOV A,ES:[HL+C] (R171). -/
def execMovAEsHlC (s : State) : Host.Outcome State Fault Refusal :=
  finish (move8 accA (.loc (.mem (.indexed .es .c))) s)

/-- MOV [HL+C],A (R171). -/
def execMovHlCA (s : State) : Host.Outcome State Fault Refusal :=
  finish (move8 (.mem (.indexed .f .c)) (.loc accA) s)

/-- MOV ES:[HL+C],A (R171). -/
def execMovEsHlCA (s : State) : Host.Outcome State Fault Refusal :=
  finish (move8 (.mem (.indexed .es .c)) (.loc accA) s)

/-- MOV word[B],#byte (R171). -/
def execMovWordBImm (base : Word) (data : Byte) (s : State) : Host.Outcome State Fault Refusal :=
  finish (move8 (.mem (.wordReg .f base .b)) (.imm data) s)

/-- MOV ES:word[B],#byte (R171). -/
def execMovEsWordBImm (base : Word) (data : Byte) (s : State) : Host.Outcome State Fault Refusal :=
  finish (move8 (.mem (.wordReg .es base .b)) (.imm data) s)

/-- MOV A,word[B] (R171). -/
def execMovAWordB (base : Word) (s : State) : Host.Outcome State Fault Refusal :=
  finish (move8 accA (.loc (.mem (.wordReg .f base .b))) s)

/-- MOV A,ES:word[B] (R171). -/
def execMovAEsWordB (base : Word) (s : State) : Host.Outcome State Fault Refusal :=
  finish (move8 accA (.loc (.mem (.wordReg .es base .b))) s)

/-- MOV word[B],A (R171). -/
def execMovWordBA (base : Word) (s : State) : Host.Outcome State Fault Refusal :=
  finish (move8 (.mem (.wordReg .f base .b)) (.loc accA) s)

/-- MOV ES:word[B],A (R171). -/
def execMovEsWordBA (base : Word) (s : State) : Host.Outcome State Fault Refusal :=
  finish (move8 (.mem (.wordReg .es base .b)) (.loc accA) s)

/-- MOV word[C],#byte (R171). -/
def execMovWordCImm (base : Word) (data : Byte) (s : State) : Host.Outcome State Fault Refusal :=
  finish (move8 (.mem (.wordReg .f base .c)) (.imm data) s)

/-- MOV ES:word[C],#byte (R171). -/
def execMovEsWordCImm (base : Word) (data : Byte) (s : State) : Host.Outcome State Fault Refusal :=
  finish (move8 (.mem (.wordReg .es base .c)) (.imm data) s)

/-- MOV A,word[C] (R171). -/
def execMovAWordC (base : Word) (s : State) : Host.Outcome State Fault Refusal :=
  finish (move8 accA (.loc (.mem (.wordReg .f base .c))) s)

/-- MOV A,ES:word[C] (R171). -/
def execMovAEsWordC (base : Word) (s : State) : Host.Outcome State Fault Refusal :=
  finish (move8 accA (.loc (.mem (.wordReg .es base .c))) s)

/-- MOV word[C],A (R171). -/
def execMovWordCA (base : Word) (s : State) : Host.Outcome State Fault Refusal :=
  finish (move8 (.mem (.wordReg .f base .c)) (.loc accA) s)

/-- MOV ES:word[C],A (R171). -/
def execMovEsWordCA (base : Word) (s : State) : Host.Outcome State Fault Refusal :=
  finish (move8 (.mem (.wordReg .es base .c)) (.loc accA) s)

/-- MOV word[BC],#byte (R171). -/
def execMovWordBcImm (base : Word) (data : Byte) (s : State) : Host.Outcome State Fault Refusal :=
  finish (move8 (.mem (.wordBc .f base)) (.imm data) s)

/-- MOV ES:word[BC],#byte (R171). -/
def execMovEsWordBcImm (base : Word) (data : Byte) (s : State) : Host.Outcome State Fault Refusal :=
  finish (move8 (.mem (.wordBc .es base)) (.imm data) s)

/-- MOV A,word[BC] (R171). -/
def execMovAWordBc (base : Word) (s : State) : Host.Outcome State Fault Refusal :=
  finish (move8 accA (.loc (.mem (.wordBc .f base))) s)

/-- MOV A,ES:word[BC] (R171). -/
def execMovAEsWordBc (base : Word) (s : State) : Host.Outcome State Fault Refusal :=
  finish (move8 accA (.loc (.mem (.wordBc .es base))) s)

/-- MOV word[BC],A (R171). -/
def execMovWordBcA (base : Word) (s : State) : Host.Outcome State Fault Refusal :=
  finish (move8 (.mem (.wordBc .f base)) (.loc accA) s)

/-- MOV ES:word[BC],A (R171). -/
def execMovEsWordBcA (base : Word) (s : State) : Host.Outcome State Fault Refusal :=
  finish (move8 (.mem (.wordBc .es base)) (.loc accA) s)

/-- MOV [SP+byte],#byte (R171). -/
def execMovSpOffImm (off : Byte) (data : Byte) (s : State) : Host.Outcome State Fault Refusal :=
  finish (move8 (.mem (.spOff off)) (.imm data) s)

/-- MOV A,[SP+byte] (R171). -/
def execMovASpOff (off : Byte) (s : State) : Host.Outcome State Fault Refusal :=
  finish (move8 accA (.loc (.mem (.spOff off))) s)

/-- MOV [SP+byte],A (R171). -/
def execMovSpOffA (off : Byte) (s : State) : Host.Outcome State Fault Refusal :=
  finish (move8 (.mem (.spOff off)) (.loc accA) s)

/-- MOV B,saddr (R171). -/
def execMovBSaddr (sa : Byte) (s : State) : Host.Outcome State Fault Refusal :=
  finish (move8 (.reg .b) (.loc (.mem (.saddr sa))) s)

/-- MOV B,!addr16 (R171). -/
def execMovBAbs (addr : Word) (s : State) : Host.Outcome State Fault Refusal :=
  finish (move8 (.reg .b) (.loc (.mem (.abs .f addr))) s)

/-- MOV B,ES:!addr16 (R171). -/
def execMovBEsAbs (addr : Word) (s : State) : Host.Outcome State Fault Refusal :=
  finish (move8 (.reg .b) (.loc (.mem (.abs .es addr))) s)

/-- MOV C,saddr (R171). -/
def execMovCSaddr (sa : Byte) (s : State) : Host.Outcome State Fault Refusal :=
  finish (move8 (.reg .c) (.loc (.mem (.saddr sa))) s)

/-- MOV C,!addr16 (R171). -/
def execMovCAbs (addr : Word) (s : State) : Host.Outcome State Fault Refusal :=
  finish (move8 (.reg .c) (.loc (.mem (.abs .f addr))) s)

/-- MOV C,ES:!addr16 (R171). -/
def execMovCEsAbs (addr : Word) (s : State) : Host.Outcome State Fault Refusal :=
  finish (move8 (.reg .c) (.loc (.mem (.abs .es addr))) s)

/-- MOV X,saddr (R171). -/
def execMovXSaddr (sa : Byte) (s : State) : Host.Outcome State Fault Refusal :=
  finish (move8 (.reg .x) (.loc (.mem (.saddr sa))) s)

/-- MOV X,!addr16 (R171). -/
def execMovXAbs (addr : Word) (s : State) : Host.Outcome State Fault Refusal :=
  finish (move8 (.reg .x) (.loc (.mem (.abs .f addr))) s)

/-- MOV X,ES:!addr16 (R171). -/
def execMovXEsAbs (addr : Word) (s : State) : Host.Outcome State Fault Refusal :=
  finish (move8 (.reg .x) (.loc (.mem (.abs .es addr))) s)

/-- XCH A,X (R174). -/
def execXchAX (s : State) : Host.Outcome State Fault Refusal :=
  finish (exchangeReg .x s)

/-- XCH A,r (R174). -/
def execXchAR (r : Reg) (s : State) : Host.Outcome State Fault Refusal :=
  finish (exchangeReg r s)

/-- XCH A,saddr (R174). -/
def execXchASaddr (sa : Byte) (s : State) : Host.Outcome State Fault Refusal :=
  finish (exchangeMem (.saddr sa) s)

/-- XCH A,sfr (R174). -/
def execXchASfr (sf : Byte) (s : State) : Host.Outcome State Fault Refusal :=
  finish (exchangeMem (.sfr sf) s)

/-- XCH A,!addr16 (R174). -/
def execXchAAbs (addr : Word) (s : State) : Host.Outcome State Fault Refusal :=
  finish (exchangeMem (.abs .f addr) s)

/-- XCH A,ES:!addr16 (R174). -/
def execXchAEsAbs (addr : Word) (s : State) : Host.Outcome State Fault Refusal :=
  finish (exchangeMem (.abs .es addr) s)

/-- XCH A,[DE] (R174). -/
def execXchAAtDe (s : State) : Host.Outcome State Fault Refusal :=
  finish (exchangeMem (.indirect .f .de) s)

/-- XCH A,ES:[DE] (R174). -/
def execXchAEsAtDe (s : State) : Host.Outcome State Fault Refusal :=
  finish (exchangeMem (.indirect .es .de) s)

/-- XCH A,[DE+byte] (R174). -/
def execXchADeOff (off : Byte) (s : State) : Host.Outcome State Fault Refusal :=
  finish (exchangeMem (.based .f .de off) s)

/-- XCH A,ES:[DE+byte] (R174). -/
def execXchAEsDeOff (off : Byte) (s : State) : Host.Outcome State Fault Refusal :=
  finish (exchangeMem (.based .es .de off) s)

/-- XCH A,[HL] (R174). -/
def execXchAAtHl (s : State) : Host.Outcome State Fault Refusal :=
  finish (exchangeMem (.indirect .f .hl) s)

/-- XCH A,ES:[HL] (R174). -/
def execXchAEsAtHl (s : State) : Host.Outcome State Fault Refusal :=
  finish (exchangeMem (.indirect .es .hl) s)

/-- XCH A,[HL+byte] (R174). -/
def execXchAHlOff (off : Byte) (s : State) : Host.Outcome State Fault Refusal :=
  finish (exchangeMem (.based .f .hl off) s)

/-- XCH A,ES:[HL+byte] (R174). -/
def execXchAEsHlOff (off : Byte) (s : State) : Host.Outcome State Fault Refusal :=
  finish (exchangeMem (.based .es .hl off) s)

/-- XCH A,[HL+B] (R174). -/
def execXchAHlB (s : State) : Host.Outcome State Fault Refusal :=
  finish (exchangeMem (.indexed .f .b) s)

/-- XCH A,ES:[HL+B] (R174). -/
def execXchAEsHlB (s : State) : Host.Outcome State Fault Refusal :=
  finish (exchangeMem (.indexed .es .b) s)

/-- XCH A,[HL+C] (R174). -/
def execXchAHlC (s : State) : Host.Outcome State Fault Refusal :=
  finish (exchangeMem (.indexed .f .c) s)

/-- XCH A,ES:[HL+C] (R174). -/
def execXchAEsHlC (s : State) : Host.Outcome State Fault Refusal :=
  finish (exchangeMem (.indexed .es .c) s)

/-- ONEB r (R175). -/
def execOnebR (r : Reg) (s : State) : Host.Outcome State Fault Refusal :=
  finish (move8 (.reg r) (.imm 0x01) s)

/-- ONEB saddr (R175). -/
def execOnebSaddr (sa : Byte) (s : State) : Host.Outcome State Fault Refusal :=
  finish (move8 (.mem (.saddr sa)) (.imm 0x01) s)

/-- ONEB !addr16 (R175). -/
def execOnebAbs (addr : Word) (s : State) : Host.Outcome State Fault Refusal :=
  finish (move8 (.mem (.abs .f addr)) (.imm 0x01) s)

/-- ONEB ES:!addr16 (R175). -/
def execOnebEsAbs (addr : Word) (s : State) : Host.Outcome State Fault Refusal :=
  finish (move8 (.mem (.abs .es addr)) (.imm 0x01) s)

/-- CLRB r (R176). -/
def execClrbR (r : Reg) (s : State) : Host.Outcome State Fault Refusal :=
  finish (move8 (.reg r) (.imm 0x00) s)

/-- CLRB saddr (R176). -/
def execClrbSaddr (sa : Byte) (s : State) : Host.Outcome State Fault Refusal :=
  finish (move8 (.mem (.saddr sa)) (.imm 0x00) s)

/-- CLRB !addr16 (R176). -/
def execClrbAbs (addr : Word) (s : State) : Host.Outcome State Fault Refusal :=
  finish (move8 (.mem (.abs .f addr)) (.imm 0x00) s)

/-- CLRB ES:!addr16 (R176). -/
def execClrbEsAbs (addr : Word) (s : State) : Host.Outcome State Fault Refusal :=
  finish (move8 (.mem (.abs .es addr)) (.imm 0x00) s)

/-- MOVS [HL+byte],X (R177). -/
def execMovsHlOffX (off : Byte) (s : State) : Host.Outcome State Fault Refusal :=
  finish (moveString (.based .f .hl off) s)

/-- MOVS ES:[HL+byte],X (R177). -/
def execMovsEsHlOffX (off : Byte) (s : State) : Host.Outcome State Fault Refusal :=
  finish (moveString (.based .es .hl off) s)

end Sys2Proof.Machine
end

