-- ==== Sys2Proof/Machine/Dispatch.lean ====
section
/-!
DEFINITION. The meaning of every instruction, by its own definition.
-/

namespace Sys2Proof.Machine

/-- Run one instruction. `s.pc` is already the address after it. -/
def exec (i : Instr) (s : State) : Host.Outcome State Fault Refusal :=
  match i with
  -- Transfer8
  | .movRImm r data => Sys2Proof.Machine.execMovRImm r data s
  | .movSaddrImm sa data => Sys2Proof.Machine.execMovSaddrImm sa data s
  | .movSfrImm sf data => Sys2Proof.Machine.execMovSfrImm sf data s
  | .movAbsImm addr data => Sys2Proof.Machine.execMovAbsImm addr data s
  | .movEsAbsImm addr data => Sys2Proof.Machine.execMovEsAbsImm addr data s
  | .movAR r => Sys2Proof.Machine.execMovAR r s
  | .movRA r => Sys2Proof.Machine.execMovRA r s
  | .movASaddr sa => Sys2Proof.Machine.execMovASaddr sa s
  | .movSaddrA sa => Sys2Proof.Machine.execMovSaddrA sa s
  | .movASfr sf => Sys2Proof.Machine.execMovASfr sf s
  | .movSfrA sf => Sys2Proof.Machine.execMovSfrA sf s
  | .movAAbs addr => Sys2Proof.Machine.execMovAAbs addr s
  | .movAEsAbs addr => Sys2Proof.Machine.execMovAEsAbs addr s
  | .movAbsA addr => Sys2Proof.Machine.execMovAbsA addr s
  | .movEsAbsA addr => Sys2Proof.Machine.execMovEsAbsA addr s
  | .movPswImm data => Sys2Proof.Machine.execMovPswImm data s
  | .movAPsw => Sys2Proof.Machine.execMovAPsw s
  | .movPswA => Sys2Proof.Machine.execMovPswA s
  | .movEsImm data => Sys2Proof.Machine.execMovEsImm data s
  | .movEsSaddr sa => Sys2Proof.Machine.execMovEsSaddr sa s
  | .movAEs => Sys2Proof.Machine.execMovAEs s
  | .movEsA => Sys2Proof.Machine.execMovEsA s
  | .movCsImm data => Sys2Proof.Machine.execMovCsImm data s
  | .movACs => Sys2Proof.Machine.execMovACs s
  | .movCsA => Sys2Proof.Machine.execMovCsA s
  | .movAAtDe => Sys2Proof.Machine.execMovAAtDe s
  | .movAEsAtDe => Sys2Proof.Machine.execMovAEsAtDe s
  | .movAtDeA => Sys2Proof.Machine.execMovAtDeA s
  | .movEsAtDeA => Sys2Proof.Machine.execMovEsAtDeA s
  | .movDeOffImm off data => Sys2Proof.Machine.execMovDeOffImm off data s
  | .movEsDeOffImm off data => Sys2Proof.Machine.execMovEsDeOffImm off data s
  | .movADeOff off => Sys2Proof.Machine.execMovADeOff off s
  | .movAEsDeOff off => Sys2Proof.Machine.execMovAEsDeOff off s
  | .movDeOffA off => Sys2Proof.Machine.execMovDeOffA off s
  | .movEsDeOffA off => Sys2Proof.Machine.execMovEsDeOffA off s
  | .movAAtHl => Sys2Proof.Machine.execMovAAtHl s
  | .movAEsAtHl => Sys2Proof.Machine.execMovAEsAtHl s
  | .movAtHlA => Sys2Proof.Machine.execMovAtHlA s
  | .movEsAtHlA => Sys2Proof.Machine.execMovEsAtHlA s
  | .movHlOffImm off data => Sys2Proof.Machine.execMovHlOffImm off data s
  | .movEsHlOffImm off data => Sys2Proof.Machine.execMovEsHlOffImm off data s
  | .movAHlOff off => Sys2Proof.Machine.execMovAHlOff off s
  | .movAEsHlOff off => Sys2Proof.Machine.execMovAEsHlOff off s
  | .movHlOffA off => Sys2Proof.Machine.execMovHlOffA off s
  | .movEsHlOffA off => Sys2Proof.Machine.execMovEsHlOffA off s
  | .movAHlB => Sys2Proof.Machine.execMovAHlB s
  | .movAEsHlB => Sys2Proof.Machine.execMovAEsHlB s
  | .movHlBA => Sys2Proof.Machine.execMovHlBA s
  | .movEsHlBA => Sys2Proof.Machine.execMovEsHlBA s
  | .movAHlC => Sys2Proof.Machine.execMovAHlC s
  | .movAEsHlC => Sys2Proof.Machine.execMovAEsHlC s
  | .movHlCA => Sys2Proof.Machine.execMovHlCA s
  | .movEsHlCA => Sys2Proof.Machine.execMovEsHlCA s
  | .movWordBImm base data => Sys2Proof.Machine.execMovWordBImm base data s
  | .movEsWordBImm base data => Sys2Proof.Machine.execMovEsWordBImm base data s
  | .movAWordB base => Sys2Proof.Machine.execMovAWordB base s
  | .movAEsWordB base => Sys2Proof.Machine.execMovAEsWordB base s
  | .movWordBA base => Sys2Proof.Machine.execMovWordBA base s
  | .movEsWordBA base => Sys2Proof.Machine.execMovEsWordBA base s
  | .movWordCImm base data => Sys2Proof.Machine.execMovWordCImm base data s
  | .movEsWordCImm base data => Sys2Proof.Machine.execMovEsWordCImm base data s
  | .movAWordC base => Sys2Proof.Machine.execMovAWordC base s
  | .movAEsWordC base => Sys2Proof.Machine.execMovAEsWordC base s
  | .movWordCA base => Sys2Proof.Machine.execMovWordCA base s
  | .movEsWordCA base => Sys2Proof.Machine.execMovEsWordCA base s
  | .movWordBcImm base data => Sys2Proof.Machine.execMovWordBcImm base data s
  | .movEsWordBcImm base data => Sys2Proof.Machine.execMovEsWordBcImm base data s
  | .movAWordBc base => Sys2Proof.Machine.execMovAWordBc base s
  | .movAEsWordBc base => Sys2Proof.Machine.execMovAEsWordBc base s
  | .movWordBcA base => Sys2Proof.Machine.execMovWordBcA base s
  | .movEsWordBcA base => Sys2Proof.Machine.execMovEsWordBcA base s
  | .movSpOffImm off data => Sys2Proof.Machine.execMovSpOffImm off data s
  | .movASpOff off => Sys2Proof.Machine.execMovASpOff off s
  | .movSpOffA off => Sys2Proof.Machine.execMovSpOffA off s
  | .movBSaddr sa => Sys2Proof.Machine.execMovBSaddr sa s
  | .movBAbs addr => Sys2Proof.Machine.execMovBAbs addr s
  | .movBEsAbs addr => Sys2Proof.Machine.execMovBEsAbs addr s
  | .movCSaddr sa => Sys2Proof.Machine.execMovCSaddr sa s
  | .movCAbs addr => Sys2Proof.Machine.execMovCAbs addr s
  | .movCEsAbs addr => Sys2Proof.Machine.execMovCEsAbs addr s
  | .movXSaddr sa => Sys2Proof.Machine.execMovXSaddr sa s
  | .movXAbs addr => Sys2Proof.Machine.execMovXAbs addr s
  | .movXEsAbs addr => Sys2Proof.Machine.execMovXEsAbs addr s
  | .xchAX => Sys2Proof.Machine.execXchAX s
  | .xchAR r => Sys2Proof.Machine.execXchAR r s
  | .xchASaddr sa => Sys2Proof.Machine.execXchASaddr sa s
  | .xchASfr sf => Sys2Proof.Machine.execXchASfr sf s
  | .xchAAbs addr => Sys2Proof.Machine.execXchAAbs addr s
  | .xchAEsAbs addr => Sys2Proof.Machine.execXchAEsAbs addr s
  | .xchAAtDe => Sys2Proof.Machine.execXchAAtDe s
  | .xchAEsAtDe => Sys2Proof.Machine.execXchAEsAtDe s
  | .xchADeOff off => Sys2Proof.Machine.execXchADeOff off s
  | .xchAEsDeOff off => Sys2Proof.Machine.execXchAEsDeOff off s
  | .xchAAtHl => Sys2Proof.Machine.execXchAAtHl s
  | .xchAEsAtHl => Sys2Proof.Machine.execXchAEsAtHl s
  | .xchAHlOff off => Sys2Proof.Machine.execXchAHlOff off s
  | .xchAEsHlOff off => Sys2Proof.Machine.execXchAEsHlOff off s
  | .xchAHlB => Sys2Proof.Machine.execXchAHlB s
  | .xchAEsHlB => Sys2Proof.Machine.execXchAEsHlB s
  | .xchAHlC => Sys2Proof.Machine.execXchAHlC s
  | .xchAEsHlC => Sys2Proof.Machine.execXchAEsHlC s
  | .onebR r => Sys2Proof.Machine.execOnebR r s
  | .onebSaddr sa => Sys2Proof.Machine.execOnebSaddr sa s
  | .onebAbs addr => Sys2Proof.Machine.execOnebAbs addr s
  | .onebEsAbs addr => Sys2Proof.Machine.execOnebEsAbs addr s
  | .clrbR r => Sys2Proof.Machine.execClrbR r s
  | .clrbSaddr sa => Sys2Proof.Machine.execClrbSaddr sa s
  | .clrbAbs addr => Sys2Proof.Machine.execClrbAbs addr s
  | .clrbEsAbs addr => Sys2Proof.Machine.execClrbEsAbs addr s
  | .movsHlOffX off => Sys2Proof.Machine.execMovsHlOffX off s
  | .movsEsHlOffX off => Sys2Proof.Machine.execMovsEsHlOffX off s
  -- Transfer16
  | .movwRpImm rp data => Sys2Proof.Machine.execMovwRpImm rp data s
  | .movwSaddrpImm sa data => Sys2Proof.Machine.execMovwSaddrpImm sa data s
  | .movwSfrpImm sf data => Sys2Proof.Machine.execMovwSfrpImm sf data s
  | .movwAxSaddrp sa => Sys2Proof.Machine.execMovwAxSaddrp sa s
  | .movwSaddrpAx sa => Sys2Proof.Machine.execMovwSaddrpAx sa s
  | .movwAxSfrp sf => Sys2Proof.Machine.execMovwAxSfrp sf s
  | .movwSfrpAx sf => Sys2Proof.Machine.execMovwSfrpAx sf s
  | .movwAxRp rp => Sys2Proof.Machine.execMovwAxRp rp s
  | .movwRpAx rp => Sys2Proof.Machine.execMovwRpAx rp s
  | .movwAxAbs addr => Sys2Proof.Machine.execMovwAxAbs addr s
  | .movwAxEsAbs addr => Sys2Proof.Machine.execMovwAxEsAbs addr s
  | .movwAbsAx addr => Sys2Proof.Machine.execMovwAbsAx addr s
  | .movwEsAbsAx addr => Sys2Proof.Machine.execMovwEsAbsAx addr s
  | .movwAxAtDe => Sys2Proof.Machine.execMovwAxAtDe s
  | .movwAxEsAtDe => Sys2Proof.Machine.execMovwAxEsAtDe s
  | .movwAtDeAx => Sys2Proof.Machine.execMovwAtDeAx s
  | .movwEsAtDeAx => Sys2Proof.Machine.execMovwEsAtDeAx s
  | .movwAxDeOff off => Sys2Proof.Machine.execMovwAxDeOff off s
  | .movwAxEsDeOff off => Sys2Proof.Machine.execMovwAxEsDeOff off s
  | .movwDeOffAx off => Sys2Proof.Machine.execMovwDeOffAx off s
  | .movwEsDeOffAx off => Sys2Proof.Machine.execMovwEsDeOffAx off s
  | .movwAxAtHl => Sys2Proof.Machine.execMovwAxAtHl s
  | .movwAxEsAtHl => Sys2Proof.Machine.execMovwAxEsAtHl s
  | .movwAtHlAx => Sys2Proof.Machine.execMovwAtHlAx s
  | .movwEsAtHlAx => Sys2Proof.Machine.execMovwEsAtHlAx s
  | .movwAxHlOff off => Sys2Proof.Machine.execMovwAxHlOff off s
  | .movwAxEsHlOff off => Sys2Proof.Machine.execMovwAxEsHlOff off s
  | .movwHlOffAx off => Sys2Proof.Machine.execMovwHlOffAx off s
  | .movwEsHlOffAx off => Sys2Proof.Machine.execMovwEsHlOffAx off s
  | .movwAxWordB base => Sys2Proof.Machine.execMovwAxWordB base s
  | .movwAxEsWordB base => Sys2Proof.Machine.execMovwAxEsWordB base s
  | .movwWordBAx base => Sys2Proof.Machine.execMovwWordBAx base s
  | .movwEsWordBAx base => Sys2Proof.Machine.execMovwEsWordBAx base s
  | .movwAxWordC base => Sys2Proof.Machine.execMovwAxWordC base s
  | .movwAxEsWordC base => Sys2Proof.Machine.execMovwAxEsWordC base s
  | .movwWordCAx base => Sys2Proof.Machine.execMovwWordCAx base s
  | .movwEsWordCAx base => Sys2Proof.Machine.execMovwEsWordCAx base s
  | .movwAxWordBc base => Sys2Proof.Machine.execMovwAxWordBc base s
  | .movwAxEsWordBc base => Sys2Proof.Machine.execMovwAxEsWordBc base s
  | .movwWordBcAx base => Sys2Proof.Machine.execMovwWordBcAx base s
  | .movwEsWordBcAx base => Sys2Proof.Machine.execMovwEsWordBcAx base s
  | .movwAxSpOff off => Sys2Proof.Machine.execMovwAxSpOff off s
  | .movwSpOffAx off => Sys2Proof.Machine.execMovwSpOffAx off s
  | .movwRpSaddrp rp sa => Sys2Proof.Machine.execMovwRpSaddrp rp sa s
  | .movwRpAbs rp addr => Sys2Proof.Machine.execMovwRpAbs rp addr s
  | .movwRpEsAbs rp addr => Sys2Proof.Machine.execMovwRpEsAbs rp addr s
  | .xchwAxRp rp => Sys2Proof.Machine.execXchwAxRp rp s
  | .onewAx => Sys2Proof.Machine.execOnewAx s
  | .onewBc => Sys2Proof.Machine.execOnewBc s
  | .clrwAx => Sys2Proof.Machine.execClrwAx s
  | .clrwBc => Sys2Proof.Machine.execClrwBc s
  -- Alu8
  | .addAImm data => Sys2Proof.Machine.execAddAImm data s
  | .addSaddrImm sa data => Sys2Proof.Machine.execAddSaddrImm sa data s
  | .addAR r => Sys2Proof.Machine.execAddAR r s
  | .addRA r => Sys2Proof.Machine.execAddRA r s
  | .addASaddr sa => Sys2Proof.Machine.execAddASaddr sa s
  | .addAAbs addr => Sys2Proof.Machine.execAddAAbs addr s
  | .addAEsAbs addr => Sys2Proof.Machine.execAddAEsAbs addr s
  | .addAAtHl => Sys2Proof.Machine.execAddAAtHl s
  | .addAEsAtHl => Sys2Proof.Machine.execAddAEsAtHl s
  | .addAHlOff off => Sys2Proof.Machine.execAddAHlOff off s
  | .addAEsHlOff off => Sys2Proof.Machine.execAddAEsHlOff off s
  | .addAHlB => Sys2Proof.Machine.execAddAHlB s
  | .addAEsHlB => Sys2Proof.Machine.execAddAEsHlB s
  | .addAHlC => Sys2Proof.Machine.execAddAHlC s
  | .addAEsHlC => Sys2Proof.Machine.execAddAEsHlC s
  | .addcAImm data => Sys2Proof.Machine.execAddcAImm data s
  | .addcSaddrImm sa data => Sys2Proof.Machine.execAddcSaddrImm sa data s
  | .addcAR r => Sys2Proof.Machine.execAddcAR r s
  | .addcRA r => Sys2Proof.Machine.execAddcRA r s
  | .addcASaddr sa => Sys2Proof.Machine.execAddcASaddr sa s
  | .addcAAbs addr => Sys2Proof.Machine.execAddcAAbs addr s
  | .addcAEsAbs addr => Sys2Proof.Machine.execAddcAEsAbs addr s
  | .addcAAtHl => Sys2Proof.Machine.execAddcAAtHl s
  | .addcAEsAtHl => Sys2Proof.Machine.execAddcAEsAtHl s
  | .addcAHlOff off => Sys2Proof.Machine.execAddcAHlOff off s
  | .addcAEsHlOff off => Sys2Proof.Machine.execAddcAEsHlOff off s
  | .addcAHlB => Sys2Proof.Machine.execAddcAHlB s
  | .addcAEsHlB => Sys2Proof.Machine.execAddcAEsHlB s
  | .addcAHlC => Sys2Proof.Machine.execAddcAHlC s
  | .addcAEsHlC => Sys2Proof.Machine.execAddcAEsHlC s
  | .subAImm data => Sys2Proof.Machine.execSubAImm data s
  | .subSaddrImm sa data => Sys2Proof.Machine.execSubSaddrImm sa data s
  | .subAR r => Sys2Proof.Machine.execSubAR r s
  | .subRA r => Sys2Proof.Machine.execSubRA r s
  | .subASaddr sa => Sys2Proof.Machine.execSubASaddr sa s
  | .subAAbs addr => Sys2Proof.Machine.execSubAAbs addr s
  | .subAEsAbs addr => Sys2Proof.Machine.execSubAEsAbs addr s
  | .subAAtHl => Sys2Proof.Machine.execSubAAtHl s
  | .subAEsAtHl => Sys2Proof.Machine.execSubAEsAtHl s
  | .subAHlOff off => Sys2Proof.Machine.execSubAHlOff off s
  | .subAEsHlOff off => Sys2Proof.Machine.execSubAEsHlOff off s
  | .subAHlB => Sys2Proof.Machine.execSubAHlB s
  | .subAEsHlB => Sys2Proof.Machine.execSubAEsHlB s
  | .subAHlC => Sys2Proof.Machine.execSubAHlC s
  | .subAEsHlC => Sys2Proof.Machine.execSubAEsHlC s
  | .subcAImm data => Sys2Proof.Machine.execSubcAImm data s
  | .subcSaddrImm sa data => Sys2Proof.Machine.execSubcSaddrImm sa data s
  | .subcAR r => Sys2Proof.Machine.execSubcAR r s
  | .subcRA r => Sys2Proof.Machine.execSubcRA r s
  | .subcASaddr sa => Sys2Proof.Machine.execSubcASaddr sa s
  | .subcAAbs addr => Sys2Proof.Machine.execSubcAAbs addr s
  | .subcAEsAbs addr => Sys2Proof.Machine.execSubcAEsAbs addr s
  | .subcAAtHl => Sys2Proof.Machine.execSubcAAtHl s
  | .subcAEsAtHl => Sys2Proof.Machine.execSubcAEsAtHl s
  | .subcAHlOff off => Sys2Proof.Machine.execSubcAHlOff off s
  | .subcAEsHlOff off => Sys2Proof.Machine.execSubcAEsHlOff off s
  | .subcAHlB => Sys2Proof.Machine.execSubcAHlB s
  | .subcAEsHlB => Sys2Proof.Machine.execSubcAEsHlB s
  | .subcAHlC => Sys2Proof.Machine.execSubcAHlC s
  | .subcAEsHlC => Sys2Proof.Machine.execSubcAEsHlC s
  | .cmpAImm data => Sys2Proof.Machine.execCmpAImm data s
  | .cmpSaddrImm sa data => Sys2Proof.Machine.execCmpSaddrImm sa data s
  | .cmpAR r => Sys2Proof.Machine.execCmpAR r s
  | .cmpRA r => Sys2Proof.Machine.execCmpRA r s
  | .cmpASaddr sa => Sys2Proof.Machine.execCmpASaddr sa s
  | .cmpAAbs addr => Sys2Proof.Machine.execCmpAAbs addr s
  | .cmpAEsAbs addr => Sys2Proof.Machine.execCmpAEsAbs addr s
  | .cmpAAtHl => Sys2Proof.Machine.execCmpAAtHl s
  | .cmpAEsAtHl => Sys2Proof.Machine.execCmpAEsAtHl s
  | .cmpAHlOff off => Sys2Proof.Machine.execCmpAHlOff off s
  | .cmpAEsHlOff off => Sys2Proof.Machine.execCmpAEsHlOff off s
  | .cmpAHlB => Sys2Proof.Machine.execCmpAHlB s
  | .cmpAEsHlB => Sys2Proof.Machine.execCmpAEsHlB s
  | .cmpAHlC => Sys2Proof.Machine.execCmpAHlC s
  | .cmpAEsHlC => Sys2Proof.Machine.execCmpAEsHlC s
  | .andAImm data => Sys2Proof.Machine.execAndAImm data s
  | .andSaddrImm sa data => Sys2Proof.Machine.execAndSaddrImm sa data s
  | .andAR r => Sys2Proof.Machine.execAndAR r s
  | .andRA r => Sys2Proof.Machine.execAndRA r s
  | .andASaddr sa => Sys2Proof.Machine.execAndASaddr sa s
  | .andAAbs addr => Sys2Proof.Machine.execAndAAbs addr s
  | .andAEsAbs addr => Sys2Proof.Machine.execAndAEsAbs addr s
  | .andAAtHl => Sys2Proof.Machine.execAndAAtHl s
  | .andAEsAtHl => Sys2Proof.Machine.execAndAEsAtHl s
  | .andAHlOff off => Sys2Proof.Machine.execAndAHlOff off s
  | .andAEsHlOff off => Sys2Proof.Machine.execAndAEsHlOff off s
  | .andAHlB => Sys2Proof.Machine.execAndAHlB s
  | .andAEsHlB => Sys2Proof.Machine.execAndAEsHlB s
  | .andAHlC => Sys2Proof.Machine.execAndAHlC s
  | .andAEsHlC => Sys2Proof.Machine.execAndAEsHlC s
  | .orAImm data => Sys2Proof.Machine.execOrAImm data s
  | .orSaddrImm sa data => Sys2Proof.Machine.execOrSaddrImm sa data s
  | .orAR r => Sys2Proof.Machine.execOrAR r s
  | .orRA r => Sys2Proof.Machine.execOrRA r s
  | .orASaddr sa => Sys2Proof.Machine.execOrASaddr sa s
  | .orAAbs addr => Sys2Proof.Machine.execOrAAbs addr s
  | .orAEsAbs addr => Sys2Proof.Machine.execOrAEsAbs addr s
  | .orAAtHl => Sys2Proof.Machine.execOrAAtHl s
  | .orAEsAtHl => Sys2Proof.Machine.execOrAEsAtHl s
  | .orAHlOff off => Sys2Proof.Machine.execOrAHlOff off s
  | .orAEsHlOff off => Sys2Proof.Machine.execOrAEsHlOff off s
  | .orAHlB => Sys2Proof.Machine.execOrAHlB s
  | .orAEsHlB => Sys2Proof.Machine.execOrAEsHlB s
  | .orAHlC => Sys2Proof.Machine.execOrAHlC s
  | .orAEsHlC => Sys2Proof.Machine.execOrAEsHlC s
  | .xorAImm data => Sys2Proof.Machine.execXorAImm data s
  | .xorSaddrImm sa data => Sys2Proof.Machine.execXorSaddrImm sa data s
  | .xorAR r => Sys2Proof.Machine.execXorAR r s
  | .xorRA r => Sys2Proof.Machine.execXorRA r s
  | .xorASaddr sa => Sys2Proof.Machine.execXorASaddr sa s
  | .xorAAbs addr => Sys2Proof.Machine.execXorAAbs addr s
  | .xorAEsAbs addr => Sys2Proof.Machine.execXorAEsAbs addr s
  | .xorAAtHl => Sys2Proof.Machine.execXorAAtHl s
  | .xorAEsAtHl => Sys2Proof.Machine.execXorAEsAtHl s
  | .xorAHlOff off => Sys2Proof.Machine.execXorAHlOff off s
  | .xorAEsHlOff off => Sys2Proof.Machine.execXorAEsHlOff off s
  | .xorAHlB => Sys2Proof.Machine.execXorAHlB s
  | .xorAEsHlB => Sys2Proof.Machine.execXorAEsHlB s
  | .xorAHlC => Sys2Proof.Machine.execXorAHlC s
  | .xorAEsHlC => Sys2Proof.Machine.execXorAEsHlC s
  | .cmpAbsImm addr data => Sys2Proof.Machine.execCmpAbsImm addr data s
  | .cmpEsAbsImm addr data => Sys2Proof.Machine.execCmpEsAbsImm addr data s
  | .cmp0R r => Sys2Proof.Machine.execCmp0R r s
  | .cmp0Saddr sa => Sys2Proof.Machine.execCmp0Saddr sa s
  | .cmp0Abs addr => Sys2Proof.Machine.execCmp0Abs addr s
  | .cmp0EsAbs addr => Sys2Proof.Machine.execCmp0EsAbs addr s
  | .cmpsXHlOff off => Sys2Proof.Machine.execCmpsXHlOff off s
  | .cmpsXEsHlOff off => Sys2Proof.Machine.execCmpsXEsHlOff off s
  -- Alu16
  | .addwAxImm data => Sys2Proof.Machine.execAddwAxImm data s
  | .addwAxRp rp => Sys2Proof.Machine.execAddwAxRp rp s
  | .addwAxSaddrp sa => Sys2Proof.Machine.execAddwAxSaddrp sa s
  | .addwAxAbs addr => Sys2Proof.Machine.execAddwAxAbs addr s
  | .addwAxEsAbs addr => Sys2Proof.Machine.execAddwAxEsAbs addr s
  | .addwAxHlOff off => Sys2Proof.Machine.execAddwAxHlOff off s
  | .addwAxEsHlOff off => Sys2Proof.Machine.execAddwAxEsHlOff off s
  | .subwAxImm data => Sys2Proof.Machine.execSubwAxImm data s
  | .subwAxRp rp => Sys2Proof.Machine.execSubwAxRp rp s
  | .subwAxSaddrp sa => Sys2Proof.Machine.execSubwAxSaddrp sa s
  | .subwAxAbs addr => Sys2Proof.Machine.execSubwAxAbs addr s
  | .subwAxEsAbs addr => Sys2Proof.Machine.execSubwAxEsAbs addr s
  | .subwAxHlOff off => Sys2Proof.Machine.execSubwAxHlOff off s
  | .subwAxEsHlOff off => Sys2Proof.Machine.execSubwAxEsHlOff off s
  | .cmpwAxImm data => Sys2Proof.Machine.execCmpwAxImm data s
  | .cmpwAxRp rp => Sys2Proof.Machine.execCmpwAxRp rp s
  | .cmpwAxSaddrp sa => Sys2Proof.Machine.execCmpwAxSaddrp sa s
  | .cmpwAxAbs addr => Sys2Proof.Machine.execCmpwAxAbs addr s
  | .cmpwAxEsAbs addr => Sys2Proof.Machine.execCmpwAxEsAbs addr s
  | .cmpwAxHlOff off => Sys2Proof.Machine.execCmpwAxHlOff off s
  | .cmpwAxEsHlOff off => Sys2Proof.Machine.execCmpwAxEsHlOff off s
  -- MulDiv
  | .muluX => Sys2Proof.Machine.execMuluX s
  | .mulhu => Sys2Proof.Machine.execMulhu s
  | .mulh => Sys2Proof.Machine.execMulh s
  | .divhu => Sys2Proof.Machine.execDivhu s
  | .divwu => Sys2Proof.Machine.execDivwu s
  | .machu => Sys2Proof.Machine.execMachu s
  | .mach => Sys2Proof.Machine.execMach s
  -- IncDec
  | .incR r => Sys2Proof.Machine.execIncR r s
  | .incSaddr sa => Sys2Proof.Machine.execIncSaddr sa s
  | .incAbs addr => Sys2Proof.Machine.execIncAbs addr s
  | .incEsAbs addr => Sys2Proof.Machine.execIncEsAbs addr s
  | .incHlOff off => Sys2Proof.Machine.execIncHlOff off s
  | .incEsHlOff off => Sys2Proof.Machine.execIncEsHlOff off s
  | .decR r => Sys2Proof.Machine.execDecR r s
  | .decSaddr sa => Sys2Proof.Machine.execDecSaddr sa s
  | .decAbs addr => Sys2Proof.Machine.execDecAbs addr s
  | .decEsAbs addr => Sys2Proof.Machine.execDecEsAbs addr s
  | .decHlOff off => Sys2Proof.Machine.execDecHlOff off s
  | .decEsHlOff off => Sys2Proof.Machine.execDecEsHlOff off s
  | .incwRp rp => Sys2Proof.Machine.execIncwRp rp s
  | .incwSaddrp sa => Sys2Proof.Machine.execIncwSaddrp sa s
  | .incwAbs addr => Sys2Proof.Machine.execIncwAbs addr s
  | .incwEsAbs addr => Sys2Proof.Machine.execIncwEsAbs addr s
  | .incwHlOff off => Sys2Proof.Machine.execIncwHlOff off s
  | .incwEsHlOff off => Sys2Proof.Machine.execIncwEsHlOff off s
  | .decwRp rp => Sys2Proof.Machine.execDecwRp rp s
  | .decwSaddrp sa => Sys2Proof.Machine.execDecwSaddrp sa s
  | .decwAbs addr => Sys2Proof.Machine.execDecwAbs addr s
  | .decwEsAbs addr => Sys2Proof.Machine.execDecwEsAbs addr s
  | .decwHlOff off => Sys2Proof.Machine.execDecwHlOff off s
  | .decwEsHlOff off => Sys2Proof.Machine.execDecwEsHlOff off s
  -- ShiftRotate
  | .shrA cnt => Sys2Proof.Machine.execShrA cnt s
  | .shrwAx cnt => Sys2Proof.Machine.execShrwAx cnt s
  | .shlA cnt => Sys2Proof.Machine.execShlA cnt s
  | .shlB cnt => Sys2Proof.Machine.execShlB cnt s
  | .shlC cnt => Sys2Proof.Machine.execShlC cnt s
  | .shlwAx cnt => Sys2Proof.Machine.execShlwAx cnt s
  | .shlwBc cnt => Sys2Proof.Machine.execShlwBc cnt s
  | .sarA cnt => Sys2Proof.Machine.execSarA cnt s
  | .sarwAx cnt => Sys2Proof.Machine.execSarwAx cnt s
  | .rorA => Sys2Proof.Machine.execRorA s
  | .rolA => Sys2Proof.Machine.execRolA s
  | .rorcA => Sys2Proof.Machine.execRorcA s
  | .rolcA => Sys2Proof.Machine.execRolcA s
  | .rolwcAx => Sys2Proof.Machine.execRolwcAx s
  | .rolwcBc => Sys2Proof.Machine.execRolwcBc s
  -- BitOps
  | .mov1CyABit bit => Sys2Proof.Machine.execMov1CyABit bit s
  | .mov1ABitCy bit => Sys2Proof.Machine.execMov1ABitCy bit s
  | .mov1CyPswBit bit => Sys2Proof.Machine.execMov1CyPswBit bit s
  | .mov1PswBitCy bit => Sys2Proof.Machine.execMov1PswBitCy bit s
  | .mov1CySaddrBit sa bit => Sys2Proof.Machine.execMov1CySaddrBit sa bit s
  | .mov1SaddrBitCy sa bit => Sys2Proof.Machine.execMov1SaddrBitCy sa bit s
  | .mov1CySfrBit sf bit => Sys2Proof.Machine.execMov1CySfrBit sf bit s
  | .mov1SfrBitCy sf bit => Sys2Proof.Machine.execMov1SfrBitCy sf bit s
  | .mov1CyHlBit bit => Sys2Proof.Machine.execMov1CyHlBit bit s
  | .mov1CyEsHlBit bit => Sys2Proof.Machine.execMov1CyEsHlBit bit s
  | .mov1HlBitCy bit => Sys2Proof.Machine.execMov1HlBitCy bit s
  | .mov1EsHlBitCy bit => Sys2Proof.Machine.execMov1EsHlBitCy bit s
  | .and1CyABit bit => Sys2Proof.Machine.execAnd1CyABit bit s
  | .and1CyPswBit bit => Sys2Proof.Machine.execAnd1CyPswBit bit s
  | .and1CySaddrBit sa bit => Sys2Proof.Machine.execAnd1CySaddrBit sa bit s
  | .and1CySfrBit sf bit => Sys2Proof.Machine.execAnd1CySfrBit sf bit s
  | .and1CyHlBit bit => Sys2Proof.Machine.execAnd1CyHlBit bit s
  | .and1CyEsHlBit bit => Sys2Proof.Machine.execAnd1CyEsHlBit bit s
  | .or1CyABit bit => Sys2Proof.Machine.execOr1CyABit bit s
  | .or1CyPswBit bit => Sys2Proof.Machine.execOr1CyPswBit bit s
  | .or1CySaddrBit sa bit => Sys2Proof.Machine.execOr1CySaddrBit sa bit s
  | .or1CySfrBit sf bit => Sys2Proof.Machine.execOr1CySfrBit sf bit s
  | .or1CyHlBit bit => Sys2Proof.Machine.execOr1CyHlBit bit s
  | .or1CyEsHlBit bit => Sys2Proof.Machine.execOr1CyEsHlBit bit s
  | .xor1CyABit bit => Sys2Proof.Machine.execXor1CyABit bit s
  | .xor1CyPswBit bit => Sys2Proof.Machine.execXor1CyPswBit bit s
  | .xor1CySaddrBit sa bit => Sys2Proof.Machine.execXor1CySaddrBit sa bit s
  | .xor1CySfrBit sf bit => Sys2Proof.Machine.execXor1CySfrBit sf bit s
  | .xor1CyHlBit bit => Sys2Proof.Machine.execXor1CyHlBit bit s
  | .xor1CyEsHlBit bit => Sys2Proof.Machine.execXor1CyEsHlBit bit s
  | .set1ABit bit => Sys2Proof.Machine.execSet1ABit bit s
  | .set1PswBit bit => Sys2Proof.Machine.execSet1PswBit bit s
  | .set1AbsBit addr bit => Sys2Proof.Machine.execSet1AbsBit addr bit s
  | .set1EsAbsBit addr bit => Sys2Proof.Machine.execSet1EsAbsBit addr bit s
  | .set1SaddrBit sa bit => Sys2Proof.Machine.execSet1SaddrBit sa bit s
  | .set1SfrBit sf bit => Sys2Proof.Machine.execSet1SfrBit sf bit s
  | .set1HlBit bit => Sys2Proof.Machine.execSet1HlBit bit s
  | .set1EsHlBit bit => Sys2Proof.Machine.execSet1EsHlBit bit s
  | .clr1ABit bit => Sys2Proof.Machine.execClr1ABit bit s
  | .clr1PswBit bit => Sys2Proof.Machine.execClr1PswBit bit s
  | .clr1AbsBit addr bit => Sys2Proof.Machine.execClr1AbsBit addr bit s
  | .clr1EsAbsBit addr bit => Sys2Proof.Machine.execClr1EsAbsBit addr bit s
  | .clr1SaddrBit sa bit => Sys2Proof.Machine.execClr1SaddrBit sa bit s
  | .clr1SfrBit sf bit => Sys2Proof.Machine.execClr1SfrBit sf bit s
  | .clr1HlBit bit => Sys2Proof.Machine.execClr1HlBit bit s
  | .clr1EsHlBit bit => Sys2Proof.Machine.execClr1EsHlBit bit s
  | .set1Cy => Sys2Proof.Machine.execSet1Cy s
  | .clr1Cy => Sys2Proof.Machine.execClr1Cy s
  | .not1Cy => Sys2Proof.Machine.execNot1Cy s
  -- CallStack
  | .callRp rp => Sys2Proof.Machine.execCallRp rp s
  | .callRel16 disp => Sys2Proof.Machine.execCallRel16 disp s
  | .callAbs16 addr => Sys2Proof.Machine.execCallAbs16 addr s
  | .callAbs20 target => Sys2Proof.Machine.execCallAbs20 target s
  | .callt k => Sys2Proof.Machine.execCallt k s
  | .brk => Sys2Proof.Machine.execBrk s
  | .ret => Sys2Proof.Machine.execRet s
  | .reti => Sys2Proof.Machine.execReti s
  | .retb => Sys2Proof.Machine.execRetb s
  | .pushPsw => Sys2Proof.Machine.execPushPsw s
  | .pushRp rp => Sys2Proof.Machine.execPushRp rp s
  | .popPsw => Sys2Proof.Machine.execPopPsw s
  | .popRp rp => Sys2Proof.Machine.execPopRp rp s
  | .movwSpImm data => Sys2Proof.Machine.execMovwSpImm data s
  | .movwSpAx => Sys2Proof.Machine.execMovwSpAx s
  | .movwAxSp => Sys2Proof.Machine.execMovwAxSp s
  | .movwRpSp rp => Sys2Proof.Machine.execMovwRpSp rp s
  | .addwSpImm data => Sys2Proof.Machine.execAddwSpImm data s
  | .subwSpImm data => Sys2Proof.Machine.execSubwSpImm data s
  -- Branch
  | .brAx => Sys2Proof.Machine.execBrAx s
  | .brRel8 disp => Sys2Proof.Machine.execBrRel8 disp s
  | .brRel16 disp => Sys2Proof.Machine.execBrRel16 disp s
  | .brAbs16 addr => Sys2Proof.Machine.execBrAbs16 addr s
  | .brAbs20 target => Sys2Proof.Machine.execBrAbs20 target s
  | .bc disp => Sys2Proof.Machine.execBc disp s
  | .bnc disp => Sys2Proof.Machine.execBnc disp s
  | .bz disp => Sys2Proof.Machine.execBz disp s
  | .bnz disp => Sys2Proof.Machine.execBnz disp s
  | .bh disp => Sys2Proof.Machine.execBh disp s
  | .bnh disp => Sys2Proof.Machine.execBnh disp s
  | .btSaddrBit sa bit disp => Sys2Proof.Machine.execBtSaddrBit sa bit disp s
  | .btSfrBit sf bit disp => Sys2Proof.Machine.execBtSfrBit sf bit disp s
  | .btABit bit disp => Sys2Proof.Machine.execBtABit bit disp s
  | .btPswBit bit disp => Sys2Proof.Machine.execBtPswBit bit disp s
  | .btHlBit bit disp => Sys2Proof.Machine.execBtHlBit bit disp s
  | .btEsHlBit bit disp => Sys2Proof.Machine.execBtEsHlBit bit disp s
  | .bfSaddrBit sa bit disp => Sys2Proof.Machine.execBfSaddrBit sa bit disp s
  | .bfSfrBit sf bit disp => Sys2Proof.Machine.execBfSfrBit sf bit disp s
  | .bfABit bit disp => Sys2Proof.Machine.execBfABit bit disp s
  | .bfPswBit bit disp => Sys2Proof.Machine.execBfPswBit bit disp s
  | .bfHlBit bit disp => Sys2Proof.Machine.execBfHlBit bit disp s
  | .bfEsHlBit bit disp => Sys2Proof.Machine.execBfEsHlBit bit disp s
  | .btclrSaddrBit sa bit disp => Sys2Proof.Machine.execBtclrSaddrBit sa bit disp s
  | .btclrSfrBit sf bit disp => Sys2Proof.Machine.execBtclrSfrBit sf bit disp s
  | .btclrABit bit disp => Sys2Proof.Machine.execBtclrABit bit disp s
  | .btclrPswBit bit disp => Sys2Proof.Machine.execBtclrPswBit bit disp s
  | .btclrHlBit bit disp => Sys2Proof.Machine.execBtclrHlBit bit disp s
  | .btclrEsHlBit bit disp => Sys2Proof.Machine.execBtclrEsHlBit bit disp s
  -- Control
  | .skc => Sys2Proof.Machine.execSkc s
  | .sknc => Sys2Proof.Machine.execSknc s
  | .skz => Sys2Proof.Machine.execSkz s
  | .sknz => Sys2Proof.Machine.execSknz s
  | .skh => Sys2Proof.Machine.execSkh s
  | .sknh => Sys2Proof.Machine.execSknh s
  | .sel n => Sys2Proof.Machine.execSel n s
  | .nop => Sys2Proof.Machine.execNop s
  | .ei => Sys2Proof.Machine.execEi s
  | .di => Sys2Proof.Machine.execDi s
  | .halt => Sys2Proof.Machine.execHalt s
  | .stop => Sys2Proof.Machine.execStop s
  | .prefixByte => Sys2Proof.Machine.execPrefixByte s

end Sys2Proof.Machine
end

