-- ==== Sys2Proof/Machine/Step.lean ====
section
/-!
DEFINITION. One step of the machine (60_exceptions.md R404, R420): the reset signal, else standby, else an accepted
interrupt, else one instruction.
-/

namespace Sys2Proof.Machine

noncomputable section

/-- Fetch, decode and run, or skip, the instruction at PC. -/
def runInstruction (s : State) : Host.Outcome State Fault Refusal :=
  match decode s.cfg.core (fetchBytes s 5 s.pc) with
  | .error e => finish (.error (decodeStop e))
  | .ok (i, len) => if s.skip then skipped i (startInstruction s len) else exec i (startInstruction s len)

/-- An instruction boundary in run mode: an acceptable request comes first (60_exceptions.md R404). -/
def boundary (s : State) (q : Option IrqRequest) : Host.Outcome State Fault Refusal :=
  match pendingRequest s q with
  | some r => finish (acceptInterrupt s r)
  | none => runInstruction s

/-- One step. -/
def step (s : State) : Host.Outcome State Fault Refusal :=
  let e := currentInput s
  let t := tick s
  if e.reset then .next (resetSignal t)
  else if staysInStandby t e then .next t
  else boundary { t with mode := .run } e.request

end

/-- The state with the instruction whose bits are `w` (the bits above `nbits` zero) stored at PC, five bytes, in memory
and as fetch sees it; the machine runs, nothing is skipped and the outside world is quiet at the next step, so that
step runs it. -/
def State.withFetchWord (s : State) (nbits w : Nat) : State :=
  let bytes := bytesOfNat 5 (w % 2 ^ nbits)
  { s with
    mem := storeBytes s.mem s.pc.toNat bytes
    queue := storeBytes s.queue s.pc.toNat bytes
    skip := false
    mode := .run
    irq := [(s.irqView, quietInput)] }

end Sys2Proof.Machine
end

