-- ==== Sys2Proof/Forms.lean ====
section
/-!
DEFINITION. Which instruction has which operands: the rows of spec/opcode_table.json grouped by what they do, for
statements that speak of many forms at once. One constructor per row, under the row's name in `Instr`.
-/

namespace Sys2Proof.Forms

open Sys2Proof.Machine

/-- MOV to anything but PSW, ONEB, CLRB (40_transfer8.md R171, R173, R175, R176): destination, source. -/
inductive Move8 : Instr → Loc8 → Src8 → Prop where
  | movRImm (r : Reg) (data : Byte) : Move8 (.movRImm r data) (.reg r) (.imm data)
  | movSaddrImm (sa : Byte) (data : Byte) : Move8 (.movSaddrImm sa data) (.mem (.saddr sa)) (.imm data)
  | movSfrImm (sf : Byte) (data : Byte) : Move8 (.movSfrImm sf data) (.mem (.sfr sf)) (.imm data)
  | movAbsImm (addr : Word) (data : Byte) : Move8 (.movAbsImm addr data) (.mem (.abs .f addr)) (.imm data)
  | movEsAbsImm (addr : Word) (data : Byte) : Move8 (.movEsAbsImm addr data) (.mem (.abs .es addr)) (.imm data)
  | movAR (r : Reg) : Move8 (.movAR r) accA (.loc (.reg r))
  | movRA (r : Reg) : Move8 (.movRA r) (.reg r) (.loc accA)
  | movASaddr (sa : Byte) : Move8 (.movASaddr sa) accA (.loc (.mem (.saddr sa)))
  | movSaddrA (sa : Byte) : Move8 (.movSaddrA sa) (.mem (.saddr sa)) (.loc accA)
  | movASfr (sf : Byte) : Move8 (.movASfr sf) accA (.loc (.mem (.sfr sf)))
  | movSfrA (sf : Byte) : Move8 (.movSfrA sf) (.mem (.sfr sf)) (.loc accA)
  | movAAbs (addr : Word) : Move8 (.movAAbs addr) accA (.loc (.mem (.abs .f addr)))
  | movAEsAbs (addr : Word) : Move8 (.movAEsAbs addr) accA (.loc (.mem (.abs .es addr)))
  | movAbsA (addr : Word) : Move8 (.movAbsA addr) (.mem (.abs .f addr)) (.loc accA)
  | movEsAbsA (addr : Word) : Move8 (.movEsAbsA addr) (.mem (.abs .es addr)) (.loc accA)
  | movAPsw : Move8 .movAPsw accA (.loc (.mem opPsw))
  | movEsImm (data : Byte) : Move8 (.movEsImm data) (.mem opEs) (.imm data)
  | movEsSaddr (sa : Byte) : Move8 (.movEsSaddr sa) (.mem opEs) (.loc (.mem (.saddr sa)))
  | movAEs : Move8 .movAEs accA (.loc (.mem opEs))
  | movEsA : Move8 .movEsA (.mem opEs) (.loc accA)
  | movCsImm (data : Byte) : Move8 (.movCsImm data) (.mem opCs) (.imm data)
  | movACs : Move8 .movACs accA (.loc (.mem opCs))
  | movCsA : Move8 .movCsA (.mem opCs) (.loc accA)
  | movAAtDe : Move8 .movAAtDe accA (.loc (.mem (.indirect .f .de)))
  | movAEsAtDe : Move8 .movAEsAtDe accA (.loc (.mem (.indirect .es .de)))
  | movAtDeA : Move8 .movAtDeA (.mem (.indirect .f .de)) (.loc accA)
  | movEsAtDeA : Move8 .movEsAtDeA (.mem (.indirect .es .de)) (.loc accA)
  | movDeOffImm (off : Byte) (data : Byte) : Move8 (.movDeOffImm off data) (.mem (.based .f .de off)) (.imm data)
  | movEsDeOffImm (off : Byte) (data : Byte) : Move8 (.movEsDeOffImm off data) (.mem (.based .es .de off)) (.imm data)
  | movADeOff (off : Byte) : Move8 (.movADeOff off) accA (.loc (.mem (.based .f .de off)))
  | movAEsDeOff (off : Byte) : Move8 (.movAEsDeOff off) accA (.loc (.mem (.based .es .de off)))
  | movDeOffA (off : Byte) : Move8 (.movDeOffA off) (.mem (.based .f .de off)) (.loc accA)
  | movEsDeOffA (off : Byte) : Move8 (.movEsDeOffA off) (.mem (.based .es .de off)) (.loc accA)
  | movAAtHl : Move8 .movAAtHl accA (.loc (.mem (.indirect .f .hl)))
  | movAEsAtHl : Move8 .movAEsAtHl accA (.loc (.mem (.indirect .es .hl)))
  | movAtHlA : Move8 .movAtHlA (.mem (.indirect .f .hl)) (.loc accA)
  | movEsAtHlA : Move8 .movEsAtHlA (.mem (.indirect .es .hl)) (.loc accA)
  | movHlOffImm (off : Byte) (data : Byte) : Move8 (.movHlOffImm off data) (.mem (.based .f .hl off)) (.imm data)
  | movEsHlOffImm (off : Byte) (data : Byte) : Move8 (.movEsHlOffImm off data) (.mem (.based .es .hl off)) (.imm data)
  | movAHlOff (off : Byte) : Move8 (.movAHlOff off) accA (.loc (.mem (.based .f .hl off)))
  | movAEsHlOff (off : Byte) : Move8 (.movAEsHlOff off) accA (.loc (.mem (.based .es .hl off)))
  | movHlOffA (off : Byte) : Move8 (.movHlOffA off) (.mem (.based .f .hl off)) (.loc accA)
  | movEsHlOffA (off : Byte) : Move8 (.movEsHlOffA off) (.mem (.based .es .hl off)) (.loc accA)
  | movAHlB : Move8 .movAHlB accA (.loc (.mem (.indexed .f .b)))
  | movAEsHlB : Move8 .movAEsHlB accA (.loc (.mem (.indexed .es .b)))
  | movHlBA : Move8 .movHlBA (.mem (.indexed .f .b)) (.loc accA)
  | movEsHlBA : Move8 .movEsHlBA (.mem (.indexed .es .b)) (.loc accA)
  | movAHlC : Move8 .movAHlC accA (.loc (.mem (.indexed .f .c)))
  | movAEsHlC : Move8 .movAEsHlC accA (.loc (.mem (.indexed .es .c)))
  | movHlCA : Move8 .movHlCA (.mem (.indexed .f .c)) (.loc accA)
  | movEsHlCA : Move8 .movEsHlCA (.mem (.indexed .es .c)) (.loc accA)
  | movWordBImm (base : Word) (data : Byte) : Move8 (.movWordBImm base data) (.mem (.wordReg .f base .b)) (.imm data)
  | movEsWordBImm (base : Word) (data : Byte) :
    Move8 (.movEsWordBImm base data) (.mem (.wordReg .es base .b)) (.imm data)
  | movAWordB (base : Word) : Move8 (.movAWordB base) accA (.loc (.mem (.wordReg .f base .b)))
  | movAEsWordB (base : Word) : Move8 (.movAEsWordB base) accA (.loc (.mem (.wordReg .es base .b)))
  | movWordBA (base : Word) : Move8 (.movWordBA base) (.mem (.wordReg .f base .b)) (.loc accA)
  | movEsWordBA (base : Word) : Move8 (.movEsWordBA base) (.mem (.wordReg .es base .b)) (.loc accA)
  | movWordCImm (base : Word) (data : Byte) : Move8 (.movWordCImm base data) (.mem (.wordReg .f base .c)) (.imm data)
  | movEsWordCImm (base : Word) (data : Byte) :
    Move8 (.movEsWordCImm base data) (.mem (.wordReg .es base .c)) (.imm data)
  | movAWordC (base : Word) : Move8 (.movAWordC base) accA (.loc (.mem (.wordReg .f base .c)))
  | movAEsWordC (base : Word) : Move8 (.movAEsWordC base) accA (.loc (.mem (.wordReg .es base .c)))
  | movWordCA (base : Word) : Move8 (.movWordCA base) (.mem (.wordReg .f base .c)) (.loc accA)
  | movEsWordCA (base : Word) : Move8 (.movEsWordCA base) (.mem (.wordReg .es base .c)) (.loc accA)
  | movWordBcImm (base : Word) (data : Byte) : Move8 (.movWordBcImm base data) (.mem (.wordBc .f base)) (.imm data)
  | movEsWordBcImm (base : Word) (data : Byte) : Move8 (.movEsWordBcImm base data) (.mem (.wordBc .es base)) (.imm data)
  | movAWordBc (base : Word) : Move8 (.movAWordBc base) accA (.loc (.mem (.wordBc .f base)))
  | movAEsWordBc (base : Word) : Move8 (.movAEsWordBc base) accA (.loc (.mem (.wordBc .es base)))
  | movWordBcA (base : Word) : Move8 (.movWordBcA base) (.mem (.wordBc .f base)) (.loc accA)
  | movEsWordBcA (base : Word) : Move8 (.movEsWordBcA base) (.mem (.wordBc .es base)) (.loc accA)
  | movSpOffImm (off : Byte) (data : Byte) : Move8 (.movSpOffImm off data) (.mem (.spOff off)) (.imm data)
  | movASpOff (off : Byte) : Move8 (.movASpOff off) accA (.loc (.mem (.spOff off)))
  | movSpOffA (off : Byte) : Move8 (.movSpOffA off) (.mem (.spOff off)) (.loc accA)
  | movBSaddr (sa : Byte) : Move8 (.movBSaddr sa) (.reg .b) (.loc (.mem (.saddr sa)))
  | movBAbs (addr : Word) : Move8 (.movBAbs addr) (.reg .b) (.loc (.mem (.abs .f addr)))
  | movBEsAbs (addr : Word) : Move8 (.movBEsAbs addr) (.reg .b) (.loc (.mem (.abs .es addr)))
  | movCSaddr (sa : Byte) : Move8 (.movCSaddr sa) (.reg .c) (.loc (.mem (.saddr sa)))
  | movCAbs (addr : Word) : Move8 (.movCAbs addr) (.reg .c) (.loc (.mem (.abs .f addr)))
  | movCEsAbs (addr : Word) : Move8 (.movCEsAbs addr) (.reg .c) (.loc (.mem (.abs .es addr)))
  | movXSaddr (sa : Byte) : Move8 (.movXSaddr sa) (.reg .x) (.loc (.mem (.saddr sa)))
  | movXAbs (addr : Word) : Move8 (.movXAbs addr) (.reg .x) (.loc (.mem (.abs .f addr)))
  | movXEsAbs (addr : Word) : Move8 (.movXEsAbs addr) (.reg .x) (.loc (.mem (.abs .es addr)))
  | onebR (r : Reg) : Move8 (.onebR r) (.reg r) (.imm 0x01)
  | onebSaddr (sa : Byte) : Move8 (.onebSaddr sa) (.mem (.saddr sa)) (.imm 0x01)
  | onebAbs (addr : Word) : Move8 (.onebAbs addr) (.mem (.abs .f addr)) (.imm 0x01)
  | onebEsAbs (addr : Word) : Move8 (.onebEsAbs addr) (.mem (.abs .es addr)) (.imm 0x01)
  | clrbR (r : Reg) : Move8 (.clrbR r) (.reg r) (.imm 0x00)
  | clrbSaddr (sa : Byte) : Move8 (.clrbSaddr sa) (.mem (.saddr sa)) (.imm 0x00)
  | clrbAbs (addr : Word) : Move8 (.clrbAbs addr) (.mem (.abs .f addr)) (.imm 0x00)
  | clrbEsAbs (addr : Word) : Move8 (.clrbEsAbs addr) (.mem (.abs .es addr)) (.imm 0x00)

/-- MOV PSW,src (40_transfer8.md R172): source. -/
inductive MovePsw : Instr → Src8 → Prop where
  | movPswImm (data : Byte) : MovePsw (.movPswImm data) (.imm data)
  | movPswA : MovePsw .movPswA (.loc accA)

/-- XCH A,r (40_transfer8.md R174): the register. -/
inductive ExchangeReg : Instr → Reg → Prop where
  | xchAX : ExchangeReg .xchAX .x
  | xchAR (r : Reg) : ExchangeReg (.xchAR r) r

/-- XCH A with a byte of memory (40_transfer8.md R174): the byte. -/
inductive ExchangeMem : Instr → MemOp → Prop where
  | xchASaddr (sa : Byte) : ExchangeMem (.xchASaddr sa) (.saddr sa)
  | xchASfr (sf : Byte) : ExchangeMem (.xchASfr sf) (.sfr sf)
  | xchAAbs (addr : Word) : ExchangeMem (.xchAAbs addr) (.abs .f addr)
  | xchAEsAbs (addr : Word) : ExchangeMem (.xchAEsAbs addr) (.abs .es addr)
  | xchAAtDe : ExchangeMem .xchAAtDe (.indirect .f .de)
  | xchAEsAtDe : ExchangeMem .xchAEsAtDe (.indirect .es .de)
  | xchADeOff (off : Byte) : ExchangeMem (.xchADeOff off) (.based .f .de off)
  | xchAEsDeOff (off : Byte) : ExchangeMem (.xchAEsDeOff off) (.based .es .de off)
  | xchAAtHl : ExchangeMem .xchAAtHl (.indirect .f .hl)
  | xchAEsAtHl : ExchangeMem .xchAEsAtHl (.indirect .es .hl)
  | xchAHlOff (off : Byte) : ExchangeMem (.xchAHlOff off) (.based .f .hl off)
  | xchAEsHlOff (off : Byte) : ExchangeMem (.xchAEsHlOff off) (.based .es .hl off)
  | xchAHlB : ExchangeMem .xchAHlB (.indexed .f .b)
  | xchAEsHlB : ExchangeMem .xchAEsHlB (.indexed .es .b)
  | xchAHlC : ExchangeMem .xchAHlC (.indexed .f .c)
  | xchAEsHlC : ExchangeMem .xchAEsHlC (.indexed .es .c)

/-- MOVS (40_transfer8.md R177): the byte stored to. -/
inductive MoveString : Instr → MemOp → Prop where
  | movsHlOffX (off : Byte) : MoveString (.movsHlOffX off) (.based .f .hl off)
  | movsEsHlOffX (off : Byte) : MoveString (.movsEsHlOffX off) (.based .es .hl off)

/-- MOVW, ONEW, CLRW (41_transfer16.md R201, R203, R204; 48_call_return_stack.md R339): destination, source. -/
inductive Move16 : Instr → Loc16 → Src16 → Prop where
  | movwRpImm (rp : RegPair) (data : Word) : Move16 (.movwRpImm rp data) (.pair rp) (.imm data)
  | movwSaddrpImm (sa : Byte) (data : Word) : Move16 (.movwSaddrpImm sa data) (.mem (.saddr sa)) (.imm data)
  | movwSfrpImm (sf : Byte) (data : Word) : Move16 (.movwSfrpImm sf data) (.mem (.sfr sf)) (.imm data)
  | movwAxSaddrp (sa : Byte) : Move16 (.movwAxSaddrp sa) accAX (.loc (.mem (.saddr sa)))
  | movwSaddrpAx (sa : Byte) : Move16 (.movwSaddrpAx sa) (.mem (.saddr sa)) (.loc accAX)
  | movwAxSfrp (sf : Byte) : Move16 (.movwAxSfrp sf) accAX (.loc (.mem (.sfr sf)))
  | movwSfrpAx (sf : Byte) : Move16 (.movwSfrpAx sf) (.mem (.sfr sf)) (.loc accAX)
  | movwAxRp (rp : RegPair) : Move16 (.movwAxRp rp) accAX (.loc (.pair rp))
  | movwRpAx (rp : RegPair) : Move16 (.movwRpAx rp) (.pair rp) (.loc accAX)
  | movwAxAbs (addr : Word) : Move16 (.movwAxAbs addr) accAX (.loc (.mem (.abs .f addr)))
  | movwAxEsAbs (addr : Word) : Move16 (.movwAxEsAbs addr) accAX (.loc (.mem (.abs .es addr)))
  | movwAbsAx (addr : Word) : Move16 (.movwAbsAx addr) (.mem (.abs .f addr)) (.loc accAX)
  | movwEsAbsAx (addr : Word) : Move16 (.movwEsAbsAx addr) (.mem (.abs .es addr)) (.loc accAX)
  | movwAxAtDe : Move16 .movwAxAtDe accAX (.loc (.mem (.indirect .f .de)))
  | movwAxEsAtDe : Move16 .movwAxEsAtDe accAX (.loc (.mem (.indirect .es .de)))
  | movwAtDeAx : Move16 .movwAtDeAx (.mem (.indirect .f .de)) (.loc accAX)
  | movwEsAtDeAx : Move16 .movwEsAtDeAx (.mem (.indirect .es .de)) (.loc accAX)
  | movwAxDeOff (off : Byte) : Move16 (.movwAxDeOff off) accAX (.loc (.mem (.based .f .de off)))
  | movwAxEsDeOff (off : Byte) : Move16 (.movwAxEsDeOff off) accAX (.loc (.mem (.based .es .de off)))
  | movwDeOffAx (off : Byte) : Move16 (.movwDeOffAx off) (.mem (.based .f .de off)) (.loc accAX)
  | movwEsDeOffAx (off : Byte) : Move16 (.movwEsDeOffAx off) (.mem (.based .es .de off)) (.loc accAX)
  | movwAxAtHl : Move16 .movwAxAtHl accAX (.loc (.mem (.indirect .f .hl)))
  | movwAxEsAtHl : Move16 .movwAxEsAtHl accAX (.loc (.mem (.indirect .es .hl)))
  | movwAtHlAx : Move16 .movwAtHlAx (.mem (.indirect .f .hl)) (.loc accAX)
  | movwEsAtHlAx : Move16 .movwEsAtHlAx (.mem (.indirect .es .hl)) (.loc accAX)
  | movwAxHlOff (off : Byte) : Move16 (.movwAxHlOff off) accAX (.loc (.mem (.based .f .hl off)))
  | movwAxEsHlOff (off : Byte) : Move16 (.movwAxEsHlOff off) accAX (.loc (.mem (.based .es .hl off)))
  | movwHlOffAx (off : Byte) : Move16 (.movwHlOffAx off) (.mem (.based .f .hl off)) (.loc accAX)
  | movwEsHlOffAx (off : Byte) : Move16 (.movwEsHlOffAx off) (.mem (.based .es .hl off)) (.loc accAX)
  | movwAxWordB (base : Word) : Move16 (.movwAxWordB base) accAX (.loc (.mem (.wordReg .f base .b)))
  | movwAxEsWordB (base : Word) : Move16 (.movwAxEsWordB base) accAX (.loc (.mem (.wordReg .es base .b)))
  | movwWordBAx (base : Word) : Move16 (.movwWordBAx base) (.mem (.wordReg .f base .b)) (.loc accAX)
  | movwEsWordBAx (base : Word) : Move16 (.movwEsWordBAx base) (.mem (.wordReg .es base .b)) (.loc accAX)
  | movwAxWordC (base : Word) : Move16 (.movwAxWordC base) accAX (.loc (.mem (.wordReg .f base .c)))
  | movwAxEsWordC (base : Word) : Move16 (.movwAxEsWordC base) accAX (.loc (.mem (.wordReg .es base .c)))
  | movwWordCAx (base : Word) : Move16 (.movwWordCAx base) (.mem (.wordReg .f base .c)) (.loc accAX)
  | movwEsWordCAx (base : Word) : Move16 (.movwEsWordCAx base) (.mem (.wordReg .es base .c)) (.loc accAX)
  | movwAxWordBc (base : Word) : Move16 (.movwAxWordBc base) accAX (.loc (.mem (.wordBc .f base)))
  | movwAxEsWordBc (base : Word) : Move16 (.movwAxEsWordBc base) accAX (.loc (.mem (.wordBc .es base)))
  | movwWordBcAx (base : Word) : Move16 (.movwWordBcAx base) (.mem (.wordBc .f base)) (.loc accAX)
  | movwEsWordBcAx (base : Word) : Move16 (.movwEsWordBcAx base) (.mem (.wordBc .es base)) (.loc accAX)
  | movwAxSpOff (off : Byte) : Move16 (.movwAxSpOff off) accAX (.loc (.mem (.spOff off)))
  | movwSpOffAx (off : Byte) : Move16 (.movwSpOffAx off) (.mem (.spOff off)) (.loc accAX)
  | movwRpSaddrp (rp : RegPair) (sa : Byte) : Move16 (.movwRpSaddrp rp sa) (.pair rp) (.loc (.mem (.saddr sa)))
  | movwRpAbs (rp : RegPair) (addr : Word) : Move16 (.movwRpAbs rp addr) (.pair rp) (.loc (.mem (.abs .f addr)))
  | movwRpEsAbs (rp : RegPair) (addr : Word) : Move16 (.movwRpEsAbs rp addr) (.pair rp) (.loc (.mem (.abs .es addr)))
  | onewAx : Move16 .onewAx accAX (.imm 0x0001)
  | onewBc : Move16 .onewBc (.pair .bc) (.imm 0x0001)
  | clrwAx : Move16 .clrwAx accAX (.imm 0x0000)
  | clrwBc : Move16 .clrwBc (.pair .bc) (.imm 0x0000)
  | movwSpImm (data : Word) : Move16 (.movwSpImm data) (.mem opSp) (.imm data)
  | movwSpAx : Move16 .movwSpAx (.mem opSp) (.loc accAX)
  | movwAxSp : Move16 .movwAxSp accAX (.loc (.mem opSp))
  | movwRpSp (rp : RegPair) : Move16 (.movwRpSp rp) (.pair rp) (.loc (.mem opSpAbs))

/-- ADD, ADDC (42_alu8.md R221, R222): whether CY enters, destination, source. -/
inductive Add8 : Instr → Bool → Loc8 → Src8 → Prop where
  | addAImm (data : Byte) : Add8 (.addAImm data) false accA (.imm data)
  | addSaddrImm (sa : Byte) (data : Byte) : Add8 (.addSaddrImm sa data) false (.mem (.saddr sa)) (.imm data)
  | addAR (r : Reg) : Add8 (.addAR r) false accA (.loc (.reg r))
  | addRA (r : Reg) : Add8 (.addRA r) false (.reg r) (.loc accA)
  | addASaddr (sa : Byte) : Add8 (.addASaddr sa) false accA (.loc (.mem (.saddr sa)))
  | addAAbs (addr : Word) : Add8 (.addAAbs addr) false accA (.loc (.mem (.abs .f addr)))
  | addAEsAbs (addr : Word) : Add8 (.addAEsAbs addr) false accA (.loc (.mem (.abs .es addr)))
  | addAAtHl : Add8 .addAAtHl false accA (.loc (.mem (.indirect .f .hl)))
  | addAEsAtHl : Add8 .addAEsAtHl false accA (.loc (.mem (.indirect .es .hl)))
  | addAHlOff (off : Byte) : Add8 (.addAHlOff off) false accA (.loc (.mem (.based .f .hl off)))
  | addAEsHlOff (off : Byte) : Add8 (.addAEsHlOff off) false accA (.loc (.mem (.based .es .hl off)))
  | addAHlB : Add8 .addAHlB false accA (.loc (.mem (.indexed .f .b)))
  | addAEsHlB : Add8 .addAEsHlB false accA (.loc (.mem (.indexed .es .b)))
  | addAHlC : Add8 .addAHlC false accA (.loc (.mem (.indexed .f .c)))
  | addAEsHlC : Add8 .addAEsHlC false accA (.loc (.mem (.indexed .es .c)))
  | addcAImm (data : Byte) : Add8 (.addcAImm data) true accA (.imm data)
  | addcSaddrImm (sa : Byte) (data : Byte) : Add8 (.addcSaddrImm sa data) true (.mem (.saddr sa)) (.imm data)
  | addcAR (r : Reg) : Add8 (.addcAR r) true accA (.loc (.reg r))
  | addcRA (r : Reg) : Add8 (.addcRA r) true (.reg r) (.loc accA)
  | addcASaddr (sa : Byte) : Add8 (.addcASaddr sa) true accA (.loc (.mem (.saddr sa)))
  | addcAAbs (addr : Word) : Add8 (.addcAAbs addr) true accA (.loc (.mem (.abs .f addr)))
  | addcAEsAbs (addr : Word) : Add8 (.addcAEsAbs addr) true accA (.loc (.mem (.abs .es addr)))
  | addcAAtHl : Add8 .addcAAtHl true accA (.loc (.mem (.indirect .f .hl)))
  | addcAEsAtHl : Add8 .addcAEsAtHl true accA (.loc (.mem (.indirect .es .hl)))
  | addcAHlOff (off : Byte) : Add8 (.addcAHlOff off) true accA (.loc (.mem (.based .f .hl off)))
  | addcAEsHlOff (off : Byte) : Add8 (.addcAEsHlOff off) true accA (.loc (.mem (.based .es .hl off)))
  | addcAHlB : Add8 .addcAHlB true accA (.loc (.mem (.indexed .f .b)))
  | addcAEsHlB : Add8 .addcAEsHlB true accA (.loc (.mem (.indexed .es .b)))
  | addcAHlC : Add8 .addcAHlC true accA (.loc (.mem (.indexed .f .c)))
  | addcAEsHlC : Add8 .addcAEsHlC true accA (.loc (.mem (.indexed .es .c)))

/-- SUB, SUBC (42_alu8.md R223, R224): whether CY enters, destination, source. -/
inductive Sub8 : Instr → Bool → Loc8 → Src8 → Prop where
  | subAImm (data : Byte) : Sub8 (.subAImm data) false accA (.imm data)
  | subSaddrImm (sa : Byte) (data : Byte) : Sub8 (.subSaddrImm sa data) false (.mem (.saddr sa)) (.imm data)
  | subAR (r : Reg) : Sub8 (.subAR r) false accA (.loc (.reg r))
  | subRA (r : Reg) : Sub8 (.subRA r) false (.reg r) (.loc accA)
  | subASaddr (sa : Byte) : Sub8 (.subASaddr sa) false accA (.loc (.mem (.saddr sa)))
  | subAAbs (addr : Word) : Sub8 (.subAAbs addr) false accA (.loc (.mem (.abs .f addr)))
  | subAEsAbs (addr : Word) : Sub8 (.subAEsAbs addr) false accA (.loc (.mem (.abs .es addr)))
  | subAAtHl : Sub8 .subAAtHl false accA (.loc (.mem (.indirect .f .hl)))
  | subAEsAtHl : Sub8 .subAEsAtHl false accA (.loc (.mem (.indirect .es .hl)))
  | subAHlOff (off : Byte) : Sub8 (.subAHlOff off) false accA (.loc (.mem (.based .f .hl off)))
  | subAEsHlOff (off : Byte) : Sub8 (.subAEsHlOff off) false accA (.loc (.mem (.based .es .hl off)))
  | subAHlB : Sub8 .subAHlB false accA (.loc (.mem (.indexed .f .b)))
  | subAEsHlB : Sub8 .subAEsHlB false accA (.loc (.mem (.indexed .es .b)))
  | subAHlC : Sub8 .subAHlC false accA (.loc (.mem (.indexed .f .c)))
  | subAEsHlC : Sub8 .subAEsHlC false accA (.loc (.mem (.indexed .es .c)))
  | subcAImm (data : Byte) : Sub8 (.subcAImm data) true accA (.imm data)
  | subcSaddrImm (sa : Byte) (data : Byte) : Sub8 (.subcSaddrImm sa data) true (.mem (.saddr sa)) (.imm data)
  | subcAR (r : Reg) : Sub8 (.subcAR r) true accA (.loc (.reg r))
  | subcRA (r : Reg) : Sub8 (.subcRA r) true (.reg r) (.loc accA)
  | subcASaddr (sa : Byte) : Sub8 (.subcASaddr sa) true accA (.loc (.mem (.saddr sa)))
  | subcAAbs (addr : Word) : Sub8 (.subcAAbs addr) true accA (.loc (.mem (.abs .f addr)))
  | subcAEsAbs (addr : Word) : Sub8 (.subcAEsAbs addr) true accA (.loc (.mem (.abs .es addr)))
  | subcAAtHl : Sub8 .subcAAtHl true accA (.loc (.mem (.indirect .f .hl)))
  | subcAEsAtHl : Sub8 .subcAEsAtHl true accA (.loc (.mem (.indirect .es .hl)))
  | subcAHlOff (off : Byte) : Sub8 (.subcAHlOff off) true accA (.loc (.mem (.based .f .hl off)))
  | subcAEsHlOff (off : Byte) : Sub8 (.subcAEsHlOff off) true accA (.loc (.mem (.based .es .hl off)))
  | subcAHlB : Sub8 .subcAHlB true accA (.loc (.mem (.indexed .f .b)))
  | subcAEsHlB : Sub8 .subcAEsHlB true accA (.loc (.mem (.indexed .es .b)))
  | subcAHlC : Sub8 .subcAHlC true accA (.loc (.mem (.indexed .f .c)))
  | subcAEsHlC : Sub8 .subcAEsHlC true accA (.loc (.mem (.indexed .es .c)))

/-- AND, OR, XOR (42_alu8.md R225-R227): the bitwise operation, destination, source. -/
inductive Logic8 : Instr → (Byte → Byte → Byte) → Loc8 → Src8 → Prop where
  | andAImm (data : Byte) : Logic8 (.andAImm data) (fun a b => a &&& b) accA (.imm data)
  | andSaddrImm (sa : Byte) (data : Byte) :
    Logic8 (.andSaddrImm sa data) (fun a b => a &&& b) (.mem (.saddr sa)) (.imm data)
  | andAR (r : Reg) : Logic8 (.andAR r) (fun a b => a &&& b) accA (.loc (.reg r))
  | andRA (r : Reg) : Logic8 (.andRA r) (fun a b => a &&& b) (.reg r) (.loc accA)
  | andASaddr (sa : Byte) : Logic8 (.andASaddr sa) (fun a b => a &&& b) accA (.loc (.mem (.saddr sa)))
  | andAAbs (addr : Word) : Logic8 (.andAAbs addr) (fun a b => a &&& b) accA (.loc (.mem (.abs .f addr)))
  | andAEsAbs (addr : Word) : Logic8 (.andAEsAbs addr) (fun a b => a &&& b) accA (.loc (.mem (.abs .es addr)))
  | andAAtHl : Logic8 .andAAtHl (fun a b => a &&& b) accA (.loc (.mem (.indirect .f .hl)))
  | andAEsAtHl : Logic8 .andAEsAtHl (fun a b => a &&& b) accA (.loc (.mem (.indirect .es .hl)))
  | andAHlOff (off : Byte) : Logic8 (.andAHlOff off) (fun a b => a &&& b) accA (.loc (.mem (.based .f .hl off)))
  | andAEsHlOff (off : Byte) : Logic8 (.andAEsHlOff off) (fun a b => a &&& b) accA (.loc (.mem (.based .es .hl off)))
  | andAHlB : Logic8 .andAHlB (fun a b => a &&& b) accA (.loc (.mem (.indexed .f .b)))
  | andAEsHlB : Logic8 .andAEsHlB (fun a b => a &&& b) accA (.loc (.mem (.indexed .es .b)))
  | andAHlC : Logic8 .andAHlC (fun a b => a &&& b) accA (.loc (.mem (.indexed .f .c)))
  | andAEsHlC : Logic8 .andAEsHlC (fun a b => a &&& b) accA (.loc (.mem (.indexed .es .c)))
  | orAImm (data : Byte) : Logic8 (.orAImm data) (fun a b => a ||| b) accA (.imm data)
  | orSaddrImm (sa : Byte) (data : Byte) :
    Logic8 (.orSaddrImm sa data) (fun a b => a ||| b) (.mem (.saddr sa)) (.imm data)
  | orAR (r : Reg) : Logic8 (.orAR r) (fun a b => a ||| b) accA (.loc (.reg r))
  | orRA (r : Reg) : Logic8 (.orRA r) (fun a b => a ||| b) (.reg r) (.loc accA)
  | orASaddr (sa : Byte) : Logic8 (.orASaddr sa) (fun a b => a ||| b) accA (.loc (.mem (.saddr sa)))
  | orAAbs (addr : Word) : Logic8 (.orAAbs addr) (fun a b => a ||| b) accA (.loc (.mem (.abs .f addr)))
  | orAEsAbs (addr : Word) : Logic8 (.orAEsAbs addr) (fun a b => a ||| b) accA (.loc (.mem (.abs .es addr)))
  | orAAtHl : Logic8 .orAAtHl (fun a b => a ||| b) accA (.loc (.mem (.indirect .f .hl)))
  | orAEsAtHl : Logic8 .orAEsAtHl (fun a b => a ||| b) accA (.loc (.mem (.indirect .es .hl)))
  | orAHlOff (off : Byte) : Logic8 (.orAHlOff off) (fun a b => a ||| b) accA (.loc (.mem (.based .f .hl off)))
  | orAEsHlOff (off : Byte) : Logic8 (.orAEsHlOff off) (fun a b => a ||| b) accA (.loc (.mem (.based .es .hl off)))
  | orAHlB : Logic8 .orAHlB (fun a b => a ||| b) accA (.loc (.mem (.indexed .f .b)))
  | orAEsHlB : Logic8 .orAEsHlB (fun a b => a ||| b) accA (.loc (.mem (.indexed .es .b)))
  | orAHlC : Logic8 .orAHlC (fun a b => a ||| b) accA (.loc (.mem (.indexed .f .c)))
  | orAEsHlC : Logic8 .orAEsHlC (fun a b => a ||| b) accA (.loc (.mem (.indexed .es .c)))
  | xorAImm (data : Byte) : Logic8 (.xorAImm data) (fun a b => a ^^^ b) accA (.imm data)
  | xorSaddrImm (sa : Byte) (data : Byte) :
    Logic8 (.xorSaddrImm sa data) (fun a b => a ^^^ b) (.mem (.saddr sa)) (.imm data)
  | xorAR (r : Reg) : Logic8 (.xorAR r) (fun a b => a ^^^ b) accA (.loc (.reg r))
  | xorRA (r : Reg) : Logic8 (.xorRA r) (fun a b => a ^^^ b) (.reg r) (.loc accA)
  | xorASaddr (sa : Byte) : Logic8 (.xorASaddr sa) (fun a b => a ^^^ b) accA (.loc (.mem (.saddr sa)))
  | xorAAbs (addr : Word) : Logic8 (.xorAAbs addr) (fun a b => a ^^^ b) accA (.loc (.mem (.abs .f addr)))
  | xorAEsAbs (addr : Word) : Logic8 (.xorAEsAbs addr) (fun a b => a ^^^ b) accA (.loc (.mem (.abs .es addr)))
  | xorAAtHl : Logic8 .xorAAtHl (fun a b => a ^^^ b) accA (.loc (.mem (.indirect .f .hl)))
  | xorAEsAtHl : Logic8 .xorAEsAtHl (fun a b => a ^^^ b) accA (.loc (.mem (.indirect .es .hl)))
  | xorAHlOff (off : Byte) : Logic8 (.xorAHlOff off) (fun a b => a ^^^ b) accA (.loc (.mem (.based .f .hl off)))
  | xorAEsHlOff (off : Byte) : Logic8 (.xorAEsHlOff off) (fun a b => a ^^^ b) accA (.loc (.mem (.based .es .hl off)))
  | xorAHlB : Logic8 .xorAHlB (fun a b => a ^^^ b) accA (.loc (.mem (.indexed .f .b)))
  | xorAEsHlB : Logic8 .xorAEsHlB (fun a b => a ^^^ b) accA (.loc (.mem (.indexed .es .b)))
  | xorAHlC : Logic8 .xorAHlC (fun a b => a ^^^ b) accA (.loc (.mem (.indexed .f .c)))
  | xorAEsHlC : Logic8 .xorAEsHlC (fun a b => a ^^^ b) accA (.loc (.mem (.indexed .es .c)))

/-- CMP (42_alu8.md R228): first and second operand. -/
inductive Compare8 : Instr → Loc8 → Src8 → Prop where
  | cmpAImm (data : Byte) : Compare8 (.cmpAImm data) accA (.imm data)
  | cmpSaddrImm (sa : Byte) (data : Byte) : Compare8 (.cmpSaddrImm sa data) (.mem (.saddr sa)) (.imm data)
  | cmpAR (r : Reg) : Compare8 (.cmpAR r) accA (.loc (.reg r))
  | cmpRA (r : Reg) : Compare8 (.cmpRA r) (.reg r) (.loc accA)
  | cmpASaddr (sa : Byte) : Compare8 (.cmpASaddr sa) accA (.loc (.mem (.saddr sa)))
  | cmpAAbs (addr : Word) : Compare8 (.cmpAAbs addr) accA (.loc (.mem (.abs .f addr)))
  | cmpAEsAbs (addr : Word) : Compare8 (.cmpAEsAbs addr) accA (.loc (.mem (.abs .es addr)))
  | cmpAAtHl : Compare8 .cmpAAtHl accA (.loc (.mem (.indirect .f .hl)))
  | cmpAEsAtHl : Compare8 .cmpAEsAtHl accA (.loc (.mem (.indirect .es .hl)))
  | cmpAHlOff (off : Byte) : Compare8 (.cmpAHlOff off) accA (.loc (.mem (.based .f .hl off)))
  | cmpAEsHlOff (off : Byte) : Compare8 (.cmpAEsHlOff off) accA (.loc (.mem (.based .es .hl off)))
  | cmpAHlB : Compare8 .cmpAHlB accA (.loc (.mem (.indexed .f .b)))
  | cmpAEsHlB : Compare8 .cmpAEsHlB accA (.loc (.mem (.indexed .es .b)))
  | cmpAHlC : Compare8 .cmpAHlC accA (.loc (.mem (.indexed .f .c)))
  | cmpAEsHlC : Compare8 .cmpAEsHlC accA (.loc (.mem (.indexed .es .c)))
  | cmpAbsImm (addr : Word) (data : Byte) : Compare8 (.cmpAbsImm addr data) (.mem (.abs .f addr)) (.imm data)
  | cmpEsAbsImm (addr : Word) (data : Byte) : Compare8 (.cmpEsAbsImm addr data) (.mem (.abs .es addr)) (.imm data)

/-- CMP0 (42_alu8.md R229): the operand. -/
inductive CompareZero : Instr → Loc8 → Prop where
  | cmp0R (r : Reg) : CompareZero (.cmp0R r) (.reg r)
  | cmp0Saddr (sa : Byte) : CompareZero (.cmp0Saddr sa) (.mem (.saddr sa))
  | cmp0Abs (addr : Word) : CompareZero (.cmp0Abs addr) (.mem (.abs .f addr))
  | cmp0EsAbs (addr : Word) : CompareZero (.cmp0EsAbs addr) (.mem (.abs .es addr))

/-- CMPS (42_alu8.md R230): the byte compared with X. -/
inductive CompareString : Instr → MemOp → Prop where
  | cmpsXHlOff (off : Byte) : CompareString (.cmpsXHlOff off) (.based .f .hl off)
  | cmpsXEsHlOff (off : Byte) : CompareString (.cmpsXEsHlOff off) (.based .es .hl off)

/-- ADDW AX (43_alu16.md R251): source. -/
inductive Add16 : Instr → Src16 → Prop where
  | addwAxImm (data : Word) : Add16 (.addwAxImm data) (.imm data)
  | addwAxRp (rp : RegPair) : Add16 (.addwAxRp rp) (.loc (.pair rp))
  | addwAxSaddrp (sa : Byte) : Add16 (.addwAxSaddrp sa) (.loc (.mem (.saddr sa)))
  | addwAxAbs (addr : Word) : Add16 (.addwAxAbs addr) (.loc (.mem (.abs .f addr)))
  | addwAxEsAbs (addr : Word) : Add16 (.addwAxEsAbs addr) (.loc (.mem (.abs .es addr)))
  | addwAxHlOff (off : Byte) : Add16 (.addwAxHlOff off) (.loc (.mem (.based .f .hl off)))
  | addwAxEsHlOff (off : Byte) : Add16 (.addwAxEsHlOff off) (.loc (.mem (.based .es .hl off)))

/-- SUBW AX (43_alu16.md R252): source. -/
inductive Sub16 : Instr → Src16 → Prop where
  | subwAxImm (data : Word) : Sub16 (.subwAxImm data) (.imm data)
  | subwAxRp (rp : RegPair) : Sub16 (.subwAxRp rp) (.loc (.pair rp))
  | subwAxSaddrp (sa : Byte) : Sub16 (.subwAxSaddrp sa) (.loc (.mem (.saddr sa)))
  | subwAxAbs (addr : Word) : Sub16 (.subwAxAbs addr) (.loc (.mem (.abs .f addr)))
  | subwAxEsAbs (addr : Word) : Sub16 (.subwAxEsAbs addr) (.loc (.mem (.abs .es addr)))
  | subwAxHlOff (off : Byte) : Sub16 (.subwAxHlOff off) (.loc (.mem (.based .f .hl off)))
  | subwAxEsHlOff (off : Byte) : Sub16 (.subwAxEsHlOff off) (.loc (.mem (.based .es .hl off)))

/-- CMPW AX (43_alu16.md R253): source. -/
inductive Compare16 : Instr → Src16 → Prop where
  | cmpwAxImm (data : Word) : Compare16 (.cmpwAxImm data) (.imm data)
  | cmpwAxRp (rp : RegPair) : Compare16 (.cmpwAxRp rp) (.loc (.pair rp))
  | cmpwAxSaddrp (sa : Byte) : Compare16 (.cmpwAxSaddrp sa) (.loc (.mem (.saddr sa)))
  | cmpwAxAbs (addr : Word) : Compare16 (.cmpwAxAbs addr) (.loc (.mem (.abs .f addr)))
  | cmpwAxEsAbs (addr : Word) : Compare16 (.cmpwAxEsAbs addr) (.loc (.mem (.abs .es addr)))
  | cmpwAxHlOff (off : Byte) : Compare16 (.cmpwAxHlOff off) (.loc (.mem (.based .f .hl off)))
  | cmpwAxEsHlOff (off : Byte) : Compare16 (.cmpwAxEsHlOff off) (.loc (.mem (.based .es .hl off)))

/-- INC (45_incdec.md R280): destination. -/
inductive Inc8 : Instr → Loc8 → Prop where
  | incR (r : Reg) : Inc8 (.incR r) (.reg r)
  | incSaddr (sa : Byte) : Inc8 (.incSaddr sa) (.mem (.saddr sa))
  | incAbs (addr : Word) : Inc8 (.incAbs addr) (.mem (.abs .f addr))
  | incEsAbs (addr : Word) : Inc8 (.incEsAbs addr) (.mem (.abs .es addr))
  | incHlOff (off : Byte) : Inc8 (.incHlOff off) (.mem (.based .f .hl off))
  | incEsHlOff (off : Byte) : Inc8 (.incEsHlOff off) (.mem (.based .es .hl off))

/-- DEC (45_incdec.md R281): destination. -/
inductive Dec8 : Instr → Loc8 → Prop where
  | decR (r : Reg) : Dec8 (.decR r) (.reg r)
  | decSaddr (sa : Byte) : Dec8 (.decSaddr sa) (.mem (.saddr sa))
  | decAbs (addr : Word) : Dec8 (.decAbs addr) (.mem (.abs .f addr))
  | decEsAbs (addr : Word) : Dec8 (.decEsAbs addr) (.mem (.abs .es addr))
  | decHlOff (off : Byte) : Dec8 (.decHlOff off) (.mem (.based .f .hl off))
  | decEsHlOff (off : Byte) : Dec8 (.decEsHlOff off) (.mem (.based .es .hl off))

/-- INCW (45_incdec.md R282): destination. -/
inductive Inc16 : Instr → Loc16 → Prop where
  | incwRp (rp : RegPair) : Inc16 (.incwRp rp) (.pair rp)
  | incwSaddrp (sa : Byte) : Inc16 (.incwSaddrp sa) (.mem (.saddr sa))
  | incwAbs (addr : Word) : Inc16 (.incwAbs addr) (.mem (.abs .f addr))
  | incwEsAbs (addr : Word) : Inc16 (.incwEsAbs addr) (.mem (.abs .es addr))
  | incwHlOff (off : Byte) : Inc16 (.incwHlOff off) (.mem (.based .f .hl off))
  | incwEsHlOff (off : Byte) : Inc16 (.incwEsHlOff off) (.mem (.based .es .hl off))

/-- DECW (45_incdec.md R283): destination. -/
inductive Dec16 : Instr → Loc16 → Prop where
  | decwRp (rp : RegPair) : Dec16 (.decwRp rp) (.pair rp)
  | decwSaddrp (sa : Byte) : Dec16 (.decwSaddrp sa) (.mem (.saddr sa))
  | decwAbs (addr : Word) : Dec16 (.decwAbs addr) (.mem (.abs .f addr))
  | decwEsAbs (addr : Word) : Dec16 (.decwEsAbs addr) (.mem (.abs .es addr))
  | decwHlOff (off : Byte) : Dec16 (.decwHlOff off) (.mem (.based .f .hl off))
  | decwEsHlOff (off : Byte) : Dec16 (.decwEsHlOff off) (.mem (.based .es .hl off))

/-- MOV1, AND1, OR1, XOR1 of CY with a bit outside PSW (47_bit.md R311-R314): how CY and the bit combine, the byte,
the bit. -/
inductive BitToCy : Instr → (Bool → Bool → Bool) → Loc8 → Fin 8 → Prop where
  | mov1CyABit (bit : Fin 8) : BitToCy (.mov1CyABit bit) (fun _ b => b) accA bit
  | mov1CySaddrBit (sa : Byte) (bit : Fin 8) : BitToCy (.mov1CySaddrBit sa bit) (fun _ b => b) (.mem (.saddr sa)) bit
  | mov1CySfrBit (sf : Byte) (bit : Fin 8) : BitToCy (.mov1CySfrBit sf bit) (fun _ b => b) (.mem (.sfr sf)) bit
  | mov1CyHlBit (bit : Fin 8) : BitToCy (.mov1CyHlBit bit) (fun _ b => b) (.mem (.indirect .f .hl)) bit
  | mov1CyEsHlBit (bit : Fin 8) : BitToCy (.mov1CyEsHlBit bit) (fun _ b => b) (.mem (.indirect .es .hl)) bit
  | and1CyABit (bit : Fin 8) : BitToCy (.and1CyABit bit) (fun c b => c && b) accA bit
  | and1CySaddrBit (sa : Byte) (bit : Fin 8) :
    BitToCy (.and1CySaddrBit sa bit) (fun c b => c && b) (.mem (.saddr sa)) bit
  | and1CySfrBit (sf : Byte) (bit : Fin 8) : BitToCy (.and1CySfrBit sf bit) (fun c b => c && b) (.mem (.sfr sf)) bit
  | and1CyHlBit (bit : Fin 8) : BitToCy (.and1CyHlBit bit) (fun c b => c && b) (.mem (.indirect .f .hl)) bit
  | and1CyEsHlBit (bit : Fin 8) : BitToCy (.and1CyEsHlBit bit) (fun c b => c && b) (.mem (.indirect .es .hl)) bit
  | or1CyABit (bit : Fin 8) : BitToCy (.or1CyABit bit) (fun c b => c || b) accA bit
  | or1CySaddrBit (sa : Byte) (bit : Fin 8) : BitToCy (.or1CySaddrBit sa bit) (fun c b => c || b) (.mem (.saddr sa)) bit
  | or1CySfrBit (sf : Byte) (bit : Fin 8) : BitToCy (.or1CySfrBit sf bit) (fun c b => c || b) (.mem (.sfr sf)) bit
  | or1CyHlBit (bit : Fin 8) : BitToCy (.or1CyHlBit bit) (fun c b => c || b) (.mem (.indirect .f .hl)) bit
  | or1CyEsHlBit (bit : Fin 8) : BitToCy (.or1CyEsHlBit bit) (fun c b => c || b) (.mem (.indirect .es .hl)) bit
  | xor1CyABit (bit : Fin 8) : BitToCy (.xor1CyABit bit) (fun c b => c ^^ b) accA bit
  | xor1CySaddrBit (sa : Byte) (bit : Fin 8) :
    BitToCy (.xor1CySaddrBit sa bit) (fun c b => c ^^ b) (.mem (.saddr sa)) bit
  | xor1CySfrBit (sf : Byte) (bit : Fin 8) : BitToCy (.xor1CySfrBit sf bit) (fun c b => c ^^ b) (.mem (.sfr sf)) bit
  | xor1CyHlBit (bit : Fin 8) : BitToCy (.xor1CyHlBit bit) (fun c b => c ^^ b) (.mem (.indirect .f .hl)) bit
  | xor1CyEsHlBit (bit : Fin 8) : BitToCy (.xor1CyEsHlBit bit) (fun c b => c ^^ b) (.mem (.indirect .es .hl)) bit

/-- MOV1, AND1, OR1, XOR1 of CY with a PSW bit (47_bit.md R311-R314): how CY and the bit combine, the bit. -/
inductive PswBitToCy : Instr → (Bool → Bool → Bool) → Fin 8 → Prop where
  | mov1CyPswBit (bit : Fin 8) : PswBitToCy (.mov1CyPswBit bit) (fun _ b => b) bit
  | and1CyPswBit (bit : Fin 8) : PswBitToCy (.and1CyPswBit bit) (fun c b => c && b) bit
  | or1CyPswBit (bit : Fin 8) : PswBitToCy (.or1CyPswBit bit) (fun c b => c || b) bit
  | xor1CyPswBit (bit : Fin 8) : PswBitToCy (.xor1CyPswBit bit) (fun c b => c ^^ b) bit

/-- MOV1 X.bit,CY, SET1, CLR1 outside PSW (47_bit.md R311, R315, R316): the new value (none for CY), the byte, the
bit. -/
inductive BitStore : Instr → Option Bool → Loc8 → Fin 8 → Prop where
  | mov1ABitCy (bit : Fin 8) : BitStore (.mov1ABitCy bit) none accA bit
  | mov1SaddrBitCy (sa : Byte) (bit : Fin 8) : BitStore (.mov1SaddrBitCy sa bit) none (.mem (.saddr sa)) bit
  | mov1SfrBitCy (sf : Byte) (bit : Fin 8) : BitStore (.mov1SfrBitCy sf bit) none (.mem (.sfr sf)) bit
  | mov1HlBitCy (bit : Fin 8) : BitStore (.mov1HlBitCy bit) none (.mem (.indirect .f .hl)) bit
  | mov1EsHlBitCy (bit : Fin 8) : BitStore (.mov1EsHlBitCy bit) none (.mem (.indirect .es .hl)) bit
  | set1ABit (bit : Fin 8) : BitStore (.set1ABit bit) (some true) accA bit
  | set1AbsBit (addr : Word) (bit : Fin 8) : BitStore (.set1AbsBit addr bit) (some true) (.mem (.abs .f addr)) bit
  | set1EsAbsBit (addr : Word) (bit : Fin 8) : BitStore (.set1EsAbsBit addr bit) (some true) (.mem (.abs .es addr)) bit
  | set1SaddrBit (sa : Byte) (bit : Fin 8) : BitStore (.set1SaddrBit sa bit) (some true) (.mem (.saddr sa)) bit
  | set1SfrBit (sf : Byte) (bit : Fin 8) : BitStore (.set1SfrBit sf bit) (some true) (.mem (.sfr sf)) bit
  | set1HlBit (bit : Fin 8) : BitStore (.set1HlBit bit) (some true) (.mem (.indirect .f .hl)) bit
  | set1EsHlBit (bit : Fin 8) : BitStore (.set1EsHlBit bit) (some true) (.mem (.indirect .es .hl)) bit
  | clr1ABit (bit : Fin 8) : BitStore (.clr1ABit bit) (some false) accA bit
  | clr1AbsBit (addr : Word) (bit : Fin 8) : BitStore (.clr1AbsBit addr bit) (some false) (.mem (.abs .f addr)) bit
  | clr1EsAbsBit (addr : Word) (bit : Fin 8) : BitStore (.clr1EsAbsBit addr bit) (some false) (.mem (.abs .es addr)) bit
  | clr1SaddrBit (sa : Byte) (bit : Fin 8) : BitStore (.clr1SaddrBit sa bit) (some false) (.mem (.saddr sa)) bit
  | clr1SfrBit (sf : Byte) (bit : Fin 8) : BitStore (.clr1SfrBit sf bit) (some false) (.mem (.sfr sf)) bit
  | clr1HlBit (bit : Fin 8) : BitStore (.clr1HlBit bit) (some false) (.mem (.indirect .f .hl)) bit
  | clr1EsHlBit (bit : Fin 8) : BitStore (.clr1EsHlBit bit) (some false) (.mem (.indirect .es .hl)) bit

/-- MOV1 PSW.bit,CY, SET1 PSW.bit, CLR1 PSW.bit, EI, DI (47_bit.md R311, R315, R316; 49_branch_skip_control.md R385,
R387): the new value (none for CY), the bit. -/
inductive PswBitStore : Instr → Option Bool → Fin 8 → Prop where
  | mov1PswBitCy (bit : Fin 8) : PswBitStore (.mov1PswBitCy bit) none bit
  | set1PswBit (bit : Fin 8) : PswBitStore (.set1PswBit bit) (some true) bit
  | clr1PswBit (bit : Fin 8) : PswBitStore (.clr1PswBit bit) (some false) bit
  | ei : PswBitStore .ei (some true) 7
  | di : PswBitStore .di (some false) 7

/-- BC, BNC, BZ, BNZ, BH, BNH (49_branch_skip_control.md R363-R368): the condition, the displacement. -/
inductive Branch : Instr → (Psw → Bool) → Byte → Prop where
  | bc (disp : Byte) : Branch (.bc disp) (fun p => p.cy) disp
  | bnc (disp : Byte) : Branch (.bnc disp) (fun p => !p.cy) disp
  | bz (disp : Byte) : Branch (.bz disp) (fun p => p.z) disp
  | bnz (disp : Byte) : Branch (.bnz disp) (fun p => !p.z) disp
  | bh (disp : Byte) : Branch (.bh disp) (fun p => !(p.z || p.cy)) disp
  | bnh (disp : Byte) : Branch (.bnh disp) (fun p => p.z || p.cy) disp

/-- BT, BF on a bit outside PSW (49_branch_skip_control.md R369, R370): the value that branches, the byte, the bit,
the displacement. -/
inductive BitBranch : Instr → Bool → Loc8 → Fin 8 → Byte → Prop where
  | btSaddrBit (sa : Byte) (bit : Fin 8) (disp : Byte) :
    BitBranch (.btSaddrBit sa bit disp) true (.mem (.saddr sa)) bit disp
  | btSfrBit (sf : Byte) (bit : Fin 8) (disp : Byte) : BitBranch (.btSfrBit sf bit disp) true (.mem (.sfr sf)) bit disp
  | btABit (bit : Fin 8) (disp : Byte) : BitBranch (.btABit bit disp) true accA bit disp
  | btHlBit (bit : Fin 8) (disp : Byte) : BitBranch (.btHlBit bit disp) true (.mem (.indirect .f .hl)) bit disp
  | btEsHlBit (bit : Fin 8) (disp : Byte) : BitBranch (.btEsHlBit bit disp) true (.mem (.indirect .es .hl)) bit disp
  | bfSaddrBit (sa : Byte) (bit : Fin 8) (disp : Byte) :
    BitBranch (.bfSaddrBit sa bit disp) false (.mem (.saddr sa)) bit disp
  | bfSfrBit (sf : Byte) (bit : Fin 8) (disp : Byte) : BitBranch (.bfSfrBit sf bit disp) false (.mem (.sfr sf)) bit disp
  | bfABit (bit : Fin 8) (disp : Byte) : BitBranch (.bfABit bit disp) false accA bit disp
  | bfHlBit (bit : Fin 8) (disp : Byte) : BitBranch (.bfHlBit bit disp) false (.mem (.indirect .f .hl)) bit disp
  | bfEsHlBit (bit : Fin 8) (disp : Byte) : BitBranch (.bfEsHlBit bit disp) false (.mem (.indirect .es .hl)) bit disp

/-- BT, BF on a PSW bit (49_branch_skip_control.md R369, R370): the value that branches, the bit, the displacement. -/
inductive PswBitBranch : Instr → Bool → Fin 8 → Byte → Prop where
  | btPswBit (bit : Fin 8) (disp : Byte) : PswBitBranch (.btPswBit bit disp) true bit disp
  | bfPswBit (bit : Fin 8) (disp : Byte) : PswBitBranch (.bfPswBit bit disp) false bit disp

/-- BTCLR on a bit outside PSW (49_branch_skip_control.md R371): the byte, the bit, the displacement. -/
inductive BitClearBranch : Instr → Loc8 → Fin 8 → Byte → Prop where
  | btclrSaddrBit (sa : Byte) (bit : Fin 8) (disp : Byte) :
    BitClearBranch (.btclrSaddrBit sa bit disp) (.mem (.saddr sa)) bit disp
  | btclrSfrBit (sf : Byte) (bit : Fin 8) (disp : Byte) :
    BitClearBranch (.btclrSfrBit sf bit disp) (.mem (.sfr sf)) bit disp
  | btclrABit (bit : Fin 8) (disp : Byte) : BitClearBranch (.btclrABit bit disp) accA bit disp
  | btclrHlBit (bit : Fin 8) (disp : Byte) : BitClearBranch (.btclrHlBit bit disp) (.mem (.indirect .f .hl)) bit disp
  | btclrEsHlBit (bit : Fin 8) (disp : Byte) :
    BitClearBranch (.btclrEsHlBit bit disp) (.mem (.indirect .es .hl)) bit disp

/-- SKC, SKNC, SKZ, SKNZ, SKH, SKNH (49_branch_skip_control.md R376-R381): the condition. -/
inductive Skip : Instr → (Psw → Bool) → Prop where
  | skc : Skip .skc (fun p => p.cy)
  | sknc : Skip .sknc (fun p => !p.cy)
  | skz : Skip .skz (fun p => p.z)
  | sknz : Skip .sknz (fun p => !p.z)
  | skh : Skip .skh (fun p => !(p.z || p.cy))
  | sknh : Skip .sknh (fun p => p.z || p.cy)

/-- The instructions after which no interrupt is accepted before the next one (10_state.md R36). -/
inductive Inhibiting : Instr → Prop where
  | movPswImm (data : Byte) : Inhibiting (.movPswImm data)
  | movPswA : Inhibiting .movPswA
  | mov1PswBitCy (bit : Fin 8) : Inhibiting (.mov1PswBitCy bit)
  | set1PswBit (bit : Fin 8) : Inhibiting (.set1PswBit bit)
  | clr1PswBit (bit : Fin 8) : Inhibiting (.clr1PswBit bit)
  | retb : Inhibiting .retb
  | reti : Inhibiting .reti
  | popPsw : Inhibiting .popPsw
  | btclrPswBit (bit : Fin 8) (disp : Byte) : Inhibiting (.btclrPswBit bit disp)
  | ei : Inhibiting .ei
  | di : Inhibiting .di
  | skc : Inhibiting .skc
  | sknc : Inhibiting .sknc
  | skz : Inhibiting .skz
  | sknz : Inhibiting .sknz
  | skh : Inhibiting .skh
  | sknh : Inhibiting .sknh

end Sys2Proof.Forms
end

