-- ==== Sys2Proof/Safety.lean ====
section
/-!
DEFINITION. What counts as a legal state and as a safe run, and the terms that statements about instructions are said
in: the read of one byte of storage, what an operand stores to, and what a step changes and leaves alone.
-/

namespace Sys2Proof.Machine

/-- The storage byte at an address: a general register in the register area, else the byte of flash or RAM. Reading it
disturbs nothing; SFR space holds no storage byte. -/
def State.cell (s : State) (a : Nat) : Byte :=
  if 0xFFEE0 ≤ a ∧ a ≤ 0xFFEFF then (s.bank (bankAt a)).get (Reg.ofCode a) else s.mem.read a

/-- What every state of a run satisfies: allowed parameters; memories in canonical form; SP even (10_state.md R29); the
unimplemented bits of ES, CS and PMC 0 (R30-R32; D18); on S1 PSW bits 5 and 3 and PMC 0 (R20, R30; D17, D37); a pending
skip only inside an inhibit window (R37); no window and no skip in standby (60_exceptions.md R420). -/
structure State.Legal (s : State) : Prop where
  cfg : s.cfg.wf = true
  mem : s.mem.wf = true
  queue : s.queue.wf = true
  sp : s.sp &&& 1 = 0
  es : s.es &&& 0xF0 = 0
  cs : s.cs &&& 0xF0 = 0
  pmc : s.pmc &&& 0xFE = 0
  psw : s.cfg.core = .s1 → s.psw.rbs1 = false ∧ s.psw.rbs0 = false
  maa : s.cfg.core = .s1 → s.pmc = 0
  skip : s.skip = true → s.inhibit = true
  standby : s.mode ≠ .run → s.inhibit = false ∧ s.skip = false

/-- A step that goes on. -/
def stepsTo (s t : State) : Prop := step s = .next t

/-- A run of `n` steps stops at no fault and no refusal. -/
def runsFor : Nat → State → Prop
  | 0, _ => True
  | n + 1, s => ∃ t, stepsTo s t ∧ runsFor n t

/-! ## What an operand stores to -/

/-- `RegAddr(b, i)` (10_state.md R13). -/
def regAddr (n : BankNo) (r : Reg) : Nat := 0xFFEF8 - 8 * n.code.toNat + r.code.toNat

/-- The storage byte that a store to a data address changes, if it changes one. -/
def byteCell (s : State) (a : Addr) : Option Nat :=
  match place s a with
  | .ram n => some n
  | .gpr n r => some (regAddr n r)
  | _ => none

/-- The CPU register byte that a store to a data address changes, if it changes one. -/
def byteCpu (s : State) (a : Addr) : Option CpuSfr :=
  match place s a with
  | .cpu r => some r
  | _ => none

/-- The storage byte of stack space that a store at an offset changes, if it changes one. -/
def stackCell (c : Config) (off : Word) : Option Nat :=
  match stackPlace c off with
  | .ram n => some n
  | _ => none

/-- What a CPU register byte keeps of a written value (10_state.md R20, R29-R32; D17, D18). -/
def implemented (core : CpuCore) (r : CpuSfr) (v : Byte) : Byte :=
  match r with
  | .spl => v &&& 0xFE
  | .psw => if core = .s1 then v &&& 0xD7 else v
  | .cs => v &&& 0x0F
  | .es => v &&& 0x0F
  | .pmc => v &&& 0x01
  | .sph => v
  | .macr _ => v

/-- A byte can be stored at a data address: RAM, a register, a product SFR; not flash, not an unusable area, and not
01H to PMC on S1 (20_memory.md R51, R70; D37). -/
def ByteWritable (s : State) (v : Byte) (a : Addr) : Prop :=
  match place s a with
  | .device _ => True
  | .cpu r => ¬(s.cfg.core = .s1 ∧ r = .pmc ∧ bitOf v 0 = true)
  | .gpr _ _ => True
  | .ram _ => True
  | .dataFlash _ => False
  | .mirror _ _ => False
  | .codeFlash _ => False
  | .unusable => False

/-- A stack byte can be accessed: not in the register area (10_state.md R16). -/
def StackUsable (c : Config) (off : Word) : Prop := stackPlace c off ≠ .registers

/-- An 8-bit operand can be written with `v`. -/
def Writable8 (s : State) (v : Byte) : Loc8 → Prop
  | .reg _ => True
  | .mem m =>
    match memAddr s m with
    | .ok (.data a) => ByteWritable s v a
    | .ok (.stack off) => StackUsable s.cfg off
    | .error _ => False

/-- The storage bytes an 8-bit operand written with `v` changes, and what they become. -/
def stored8 (s : State) (v : Byte) (l : Loc8) (x : Nat) : Option Byte :=
  match l with
  | .reg r => if x = regAddr s.rbs r then some v else none
  | .mem m =>
    match memAddr s m with
    | .ok (.data a) => if byteCell s a = some x then some v else none
    | .ok (.stack off) => if stackCell s.cfg off = some x then some v else none
    | .error _ => none

/-- The CPU register bytes an 8-bit operand written with `v` changes, and what they become. -/
def storedCpu8 (s : State) (v : Byte) (l : Loc8) (r : CpuSfr) : Option Byte :=
  match l with
  | .reg _ => none
  | .mem m =>
    match memAddr s m with
    | .ok (.data a) => if byteCpu s a = some r then some (implemented s.cfg.core r v) else none
    | .ok (.stack _) => none
    | .error _ => none

/-- A 16-bit operand can be written with `v`. -/
def Writable16 (s : State) (v : Word) : Loc16 → Prop
  | .pair _ => True
  | .mem m =>
    match memAddr s m with
    | .ok (.data a) => ByteWritable s (lowByte v) (evenAddr a) ∧ ByteWritable s (highByte v) (evenAddr a + 1)
    | .ok (.stack off) => StackUsable s.cfg (off &&& 0xFFFE)
    | .error _ => False

/-- One of two bytes, where each has an address and a value. -/
def eitherByte (lo hi : Option Nat) (v : Word) (x : Nat) : Option Byte :=
  if lo = some x then some (lowByte v) else if hi = some x then some (highByte v) else none

/-- The storage bytes a 16-bit operand written with `v` changes: the low byte at the even address, the high byte next
(20_memory.md R50, R53). -/
def stored16 (s : State) (v : Word) (l : Loc16) (x : Nat) : Option Byte :=
  match l with
  | .pair p => eitherByte (some (regAddr s.rbs p.low)) (some (regAddr s.rbs p.high)) v x
  | .mem m =>
    match memAddr s m with
    | .ok (.data a) => eitherByte (byteCell s (evenAddr a)) (byteCell s (evenAddr a + 1)) v x
    | .ok (.stack off) =>
      eitherByte (stackCell s.cfg (off &&& 0xFFFE)) (stackCell s.cfg ((off &&& 0xFFFE) + 1)) v x
    | .error _ => none

/-- The CPU register bytes a 16-bit operand written with `v` changes, and what they become. -/
def storedCpu16 (s : State) (v : Word) (l : Loc16) (r : CpuSfr) : Option Byte :=
  match l with
  | .pair _ => none
  | .mem m =>
    match memAddr s m with
    | .ok (.data a) =>
      if byteCpu s (evenAddr a) = some r then some (implemented s.cfg.core r (lowByte v))
      else if byteCpu s (evenAddr a + 1) = some r then some (implemented s.cfg.core r (highByte v))
      else none
    | .ok (.stack _) => none
    | .error _ => none

/-! ## What the product's devices see (20_memory.md R69; D5, D30) -/

/-- The event of a byte access at a data address, if a device stands there. -/
def byteEvent (s : State) (a : Addr) (e : Nat → DevEvent) : List DevEvent :=
  match place s a with
  | .device n => [e n]
  | _ => []

/-- The events of reading an 8-bit operand. -/
def readEvents8 (s : State) : Loc8 → List DevEvent
  | .reg _ => []
  | .mem m =>
    match memAddr s m with
    | .ok (.data a) => byteEvent s a .read8
    | .ok (.stack _) => []
    | .error _ => []

/-- The events of writing an 8-bit operand. -/
def writeEvents8 (s : State) (v : Byte) : Loc8 → List DevEvent
  | .reg _ => []
  | .mem m =>
    match memAddr s m with
    | .ok (.data a) => byteEvent s a (fun n => .write8 n v)
    | .ok (.stack _) => []
    | .error _ => []

/-- The events of an 8-bit source. -/
def sourceEvents8 (s : State) : Src8 → List DevEvent
  | .imm _ => []
  | .loc l => readEvents8 s l

/-- The events of reading a 16-bit operand: one 16-bit access where both bytes are a device's. -/
def readEvents16 (s : State) : Loc16 → List DevEvent
  | .pair _ => []
  | .mem m =>
    match memAddr s m with
    | .ok (.data a) =>
      match deviceWord s a with
      | some n => [.read16 n]
      | none => byteEvent s (evenAddr a) .read8 ++ byteEvent s (evenAddr a + 1) .read8
    | .ok (.stack _) => []
    | .error _ => []

/-- The events of writing a 16-bit operand. -/
def writeEvents16 (s : State) (v : Word) : Loc16 → List DevEvent
  | .pair _ => []
  | .mem m =>
    match memAddr s m with
    | .ok (.data a) =>
      match deviceWord s a with
      | some n => [.write16 n v]
      | none => byteEvent s (evenAddr a) (fun n => .write8 n (lowByte v))
          ++ byteEvent s (evenAddr a + 1) (fun n => .write8 n (highByte v))
    | .ok (.stack _) => []
    | .error _ => []

/-- The events of a 16-bit source. -/
def sourceEvents16 (s : State) : Src16 → List DevEvent
  | .imm _ => []
  | .loc l => readEvents16 s l

/-! ## What a step changes and leaves alone -/

/-- No storage byte, no CPU register byte changes. -/
def unchanged {α : Type} (_ : α) : Option Byte := none

/-- `t` is `s` with exactly these changes: the storage bytes (the general registers of every bank among them) and the
bytes of SP, PSW, CS, ES, PMC and MACR for which a new value is given have it, every other one is as it was; the devices
have seen the events; the parameters, the standby mode, a pending skip, the outside world's fixed answers and the count of free
values are as they were; the mirror is unsettled for the next instruction if PMC was written (70_reset_and_hazards.md
R452), else the count to it is as it was. PC, the fetch view, the inhibit window and the division hazard are not spoken
of. -/
structure Changes (s t : State) (cells : Nat → Option Byte) (ctl : CpuSfr → Option Byte) (events : List DevEvent) :
    Prop where
  storage : ∀ a, t.cell a = (cells a).getD (s.cell a)
  control : ∀ r, t.readCpu r = (ctl r).getD (s.readCpu r)
  seen : t.devLog = s.devLog ++ events
  cfg : t.cfg = s.cfg
  mode : t.mode = s.mode
  skip : t.skip = s.skip
  pmcDelay : t.pmcDelay = if (ctl .pmc).isSome then 2 else s.pmcDelay
  irq : t.irq = s.irq
  draws : t.draws = s.draws

/-- The next instruction is the one that follows: nextPC stays, and fetch goes on in sequence. -/
def Follows (s t : State) : Prop := t.pc = s.pc ∧ t.queue = s.queue

/-- No inhibit window is opened or closed, no division hazard marked. -/
def Quiet (s t : State) : Prop := t.inhibit = s.inhibit ∧ t.divHazard = s.divHazard

/-- An inhibit window is opened (10_state.md R36), no division hazard marked. -/
def Inhibits (s t : State) : Prop := t.inhibit = true ∧ t.divHazard = s.divHazard

/-- The next instruction is at `target`: a taken transfer, after which fetch sees memory as it is. -/
def JumpsTo (t : State) (target : Addr) : Prop := t.pc = target ∧ t.queue = t.mem

/-- PSW becomes `p`, no other CPU register byte changes. -/
def onlyPsw (p : Psw) (r : CpuSfr) : Option Byte := if r = .psw then some p.toByte else none

/-- SP becomes `v`, no other CPU register byte changes. -/
def onlySp (v : Word) (r : CpuSfr) : Option Byte :=
  if r = .spl then some (lowByte v) else if r = .sph then some (highByte v) else none

/-- PSW as it is once an 8-bit operand has been written with `v`. -/
def pswAfter8 (s : State) (v : Byte) (l : Loc8) : Psw :=
  match storedCpu8 s v l .psw with
  | some b => Psw.ofByte b
  | none => s.psw

/-- The CPU register bytes after an 8-bit operand has been written with `v` and the flags then set by `f`. -/
def storedWithFlags (s : State) (v : Byte) (l : Loc8) (f : Psw → Psw) (r : CpuSfr) : Option Byte :=
  if r = .psw then some (f (pswAfter8 s v l)).toByte else storedCpu8 s v l r

/-- Z, AC and CY set, every other bit of PSW as it is. -/
def Psw.withFlags (p : Psw) (z ac cy : Bool) : Psw := { p with z := z, ac := ac, cy := cy }

/-! ## Stack frames (48_call_return_stack.md R330) -/

/-- A four-byte frame below SP can be written. -/
def FrameUsable (s : State) : Prop := StackUsable s.cfg (s.sp - 2) ∧ StackUsable s.cfg (s.sp - 4)

/-- The storage bytes of a pushed word `hi:lo`, and what they become. -/
def pushCells (s : State) (v : Word) (x : Nat) : Option Byte :=
  eitherByte (stackCell s.cfg (s.sp - 2)) (stackCell s.cfg (s.sp - 1)) v x

/-- The storage bytes of a frame with `top` above the return address `ret`, and what they become. -/
def frameCells (s : State) (top : Byte) (ret : Addr) (x : Nat) : Option Byte :=
  (pushCells s (wordOf top (BitVec.ofNat 8 (ret.toNat / 65536))) x).or
    (eitherByte (stackCell s.cfg (s.sp - 4)) (stackCell s.cfg (s.sp - 3)) (BitVec.ofNat 16 ret.toNat) x)

/-! ## Relative branches (31_addressing.md R131, 49_branch_skip_control.md R361) -/

/-- `(nextPC + disp) mod 2^20`. -/
def relTarget (s : State) (disp : Int) : Addr := BitVec.ofInt 20 (s.pc.toNat + disp)

/-- A relative branch by `disp` does not leave RAM (R361; D20). -/
def BranchAllowed (s : State) (disp : Int) : Prop :=
  inRam s.cfg (s.pc - 1).toNat = true → inRam s.cfg (relTarget s disp).toNat = true

/-! ## Completing -/

/-- The storage bytes a double word written to two pairs changes, and what they become. -/
def stored32 (s : State) (v : Nat) (hi lo : RegPair) (x : Nat) : Option Byte :=
  (stored16 s (BitVec.ofNat 16 (v / 65536)) (.pair hi) x).or (stored16 s (BitVec.ofNat 16 v) (.pair lo) x)

/-- The instruction completes: `exec` answers a next state with exactly these changes, the next instruction follows,
and no inhibit window opens. -/
def Completes (i : Instr) (s : State) (cells : Nat → Option Byte) (ctl : CpuSfr → Option Byte)
    (events : List DevEvent) : Prop :=
  ∃ t, exec i s = .next t ∧ Changes s t cells ctl events ∧ Follows s t ∧ Quiet s t

/-- The instruction completes, the next one follows, and interrupts are held until after it (10_state.md R36). -/
def CompletesInhibiting (i : Instr) (s : State) (cells : Nat → Option Byte) (ctl : CpuSfr → Option Byte)
    (events : List DevEvent) : Prop :=
  ∃ t, exec i s = .next t ∧ Changes s t cells ctl events ∧ Follows s t ∧ Inhibits s t

/-- The instruction completes and the next one is at `target`. -/
def CompletesAt (i : Instr) (s : State) (target : Addr) (cells : Nat → Option Byte) (ctl : CpuSfr → Option Byte)
    (events : List DevEvent) : Prop :=
  ∃ t, exec i s = .next t ∧ Changes s t cells ctl events ∧ JumpsTo t target ∧ Quiet s t

end Sys2Proof.Machine
end

