-- ==== Sys2Proof/Certificates/Slice0/Obligations.lean ====
section
/-!
DEFINITION. The statements about the model, for the provers. `s` is a state in which `s.pc` is already the address of the
next instruction wherever `exec` is spoken of. A decision D<n> named in a docstring is one of 92_eei_decisions.md, a log
entry one of notes/assumptions; what rests on it is a choice of the spec or of the model, not of the manual.
-/

open Sys2Proof Sys2Proof.Machine Sys2Proof.Forms

/-! ## Encoding -/

/-- Decoding an encoded instruction gives it back, with its length, whatever bytes follow, on every core
(30_encoding.md R90, R109). PREFIX alone is no encoding of an instruction: see `PrefixWithoutEsFormIsRefused`. -/
def Obligations.EncodeThenDecodeGivesTheInstruction : Prop :=
  ∀ (core : CpuCore) (i : Instr) (rest : List Byte),
    i.wf core = true → i ≠ .prefixByte → decode core (encode i ++ rest) = .ok (i, (encode i).length)

/-- What decodes is a well-formed instruction, and the bytes it was read from are its encoding: no bit of an instruction
is dropped (30_encoding.md R90, R109, R114). -/
def Obligations.DecodedBytesAreTheEncoding : Prop :=
  ∀ (core : CpuCore) (bytes : List Byte) (i : Instr) (n : Nat),
    decode core bytes = .ok (i, n) → i.wf core = true ∧ n = (encode i).length ∧ bytes.take n = encode i

/-- Words written out from the spec's encodings decode to what they stand for (30_encoding.md R96, R104, R114, R115 and
the examples of the family files). -/
def Obligations.WrittenWordsDecode : Prop :=
  decode .s3 [0x51, 0x4D] = .ok (.movRImm .a 0x4D, 2)
    ∧ decode .s3 [0x11, 0x8F, 0x00, 0x00] = .ok (.movAEsAbs 0x0000, 4)
    ∧ decode .s3 [0x04, 0xCD, 0xAB] = .ok (.addwAxImm 0xABCD, 3)
    ∧ decode .s3 [0x31, 0x4F] = .ok (.sarwAx 4, 2)
    ∧ decode .s3 [0x71, 0x35, 0x7F] = .ok (.and1CySaddrBit 0x7F 3, 3)
    ∧ decode .s3 [0xFC, 0x00, 0xE0, 0x03] = .ok (.callAbs20 0x3E000, 4)
    ∧ decode .s3 [0x61, 0xF6] = .ok (.callt 23, 2)
    ∧ decode .s3 [0x31, 0x80, 0xFA, 0x10] = .ok (.btclrPswBit 0 0x10, 4)
    ∧ decode .s3 [0xCE, 0xFB, 0x0B] = .ok (.divwu, 3)
    ∧ decode .s2 [0xCE, 0xFB, 0x0B] = .ok (.movSfrImm 0xFB 0x0B, 3)
    ∧ decode .s3 [0xDB, 0xF8, 0xFF] = .ok (.movwRpSp .bc, 3)

/-- The blank cells of the 2nd map (30_encoding.md R111). -/
def Sys2Proof.Forms.blank61 : List Byte :=
  [0x19, 0x39, 0x81, 0x83, 0x88, 0x91, 0x93, 0x98, 0x99, 0x9A, 0x9B, 0x9C, 0x9D, 0x9E, 0x9F, 0xA1, 0xA3, 0xB1, 0xB3,
    0xBA, 0xBB, 0xBC, 0xBD, 0xBE, 0xBF, 0xC1, 0xD1, 0xE1, 0xF1]

/-- The blank cells of the 3rd map (30_encoding.md R112). -/
def Sys2Proof.Forms.blank71 : List Byte :=
  [0x90, 0x98, 0xA0, 0xA8, 0xB0, 0xB8, 0xC8, 0xD0, 0xD8, 0xE0, 0xE8, 0xF0, 0xF8]

/-- A blank cell of the 4th map: shift count 0, column 6, byte shifts by 8 to 15 (30_encoding.md R113). -/
def Sys2Proof.Forms.blank31 (b : Byte) : Prop :=
  (b.toNat / 16 = 0 ∧ 6 ≤ b.toNat % 16) ∨ b.toNat % 16 = 6
    ∨ (8 ≤ b.toNat / 16 ∧ 7 ≤ b.toNat % 16 ∧ b.toNat % 16 ≤ 0xB)

/-- The blank cells of the four maps, and SEL on S1, decode to nothing, whatever follows; and a cell of the 3rd or 4th
map that is not blank does decode when enough bytes follow (30_encoding.md R110-R113; D3). -/
def Obligations.BlankCellsAreUnassigned : Prop :=
  (∀ core rest, decode core (0x21 :: rest) = .error .unassigned ∧ decode core (0xFF :: rest) = .error .unassigned)
    ∧ (∀ core b rest, b ∈ blank61 → decode core (0x61 :: b :: rest) = .error .unassigned)
    ∧ (∀ n : BankNo, ∀ rest, decode .s1 (0x61 :: (0xCF + 0x10 * n.code) :: rest) = .error .unassigned)
    ∧ (∀ core b c d rest, b ∈ blank71 → decode core (0x71 :: b :: c :: d :: rest) = .error .unassigned)
    ∧ (∀ core b c d rest, b ∉ blank71 → ∃ i n, decode core (0x71 :: b :: c :: d :: rest) = .ok (i, n))
    ∧ (∀ core b c d rest, blank31 b → decode core (0x31 :: b :: c :: d :: rest) = .error .unassigned)
    ∧ (∀ core b c d rest, ¬ blank31 b → ∃ i n, decode core (0x31 :: b :: c :: d :: rest) = .ok (i, n))

/-- PREFIX before bytes without an `ES:` form, a second PREFIX or an unassigned code among them, decodes to the PREFIX
byte alone, which is refused in every state, run or skipped; what PREFIX does decode with is the `ES:` form of the
instruction that follows it (30_encoding.md R95; D27; log 23). -/
def Obligations.PrefixWithoutEsFormIsRefused : Prop :=
  (∀ s : State, exec .prefixByte s = .refused .prefixWithoutEsForm)
    ∧ (∀ s : State, skipped .prefixByte s = .refused .prefixWithoutEsForm)
    ∧ (∀ core rest, decode core (0x11 :: 0x11 :: rest) = .ok (.prefixByte, 1))
    ∧ (∀ core bytes i n, decode core (0x11 :: bytes) = .ok (i, n) → i ≠ .prefixByte →
        ∃ j, decode core bytes = .ok (j, n - 1) ∧ encode i = 0x11 :: encode j)
    ∧ (∀ core bytes j n, decode core bytes = .ok (j, n) → (¬ ∃ i, encode i = 0x11 :: encode j) →
        decode core (0x11 :: bytes) = .ok (.prefixByte, 1))
    ∧ (∀ core bytes, decode core bytes = .error .unassigned → decode core (0x11 :: bytes) = .ok (.prefixByte, 1))

/-! ## The step -/

/-- A step runs the decoded instruction: without a reset signal, in run mode or released, with interrupts held or no
acceptable request, and nothing to skip, the step is `exec` of the instruction at PC, with PC moved past it and what held
for one instruction ended (10_state.md R11, R36; 60_exceptions.md R404). -/
def Obligations.StepRunsTheDecodedInstruction : Prop :=
  ∀ (s : State) (i : Instr) (n : Nat),
    (currentInput s).reset = false → (s.mode = .run ∨ (currentInput s).release = true) →
    pendingRequest s (currentInput s).request = none → s.skip = false →
    decode s.cfg.core (fetchBytes { tick s with mode := .run } 5 s.pc) = .ok (i, n) →
    step s = exec i
      { s with
        pc := s.pc + BitVec.ofNat 20 n
        inhibit := false
        skip := false
        mode := .run
        pmcDelay := s.pmcDelay - 1
        divHazard := false
        queue := (tick s).queue
        draws := s.draws + 1 }

/-- A skipped instruction does nothing but pass: PC moves past all its bytes, PREFIX included, and the skip and the
window end (49_branch_skip_control.md R375, 10_state.md R37; D21). -/
def Obligations.SkippedInstructionOnlyPasses : Prop :=
  ∀ (s : State) (i : Instr) (n : Nat),
    (currentInput s).reset = false → (s.mode = .run ∨ (currentInput s).release = true) →
    pendingRequest s (currentInput s).request = none → s.skip = true → i ≠ .prefixByte →
    decode s.cfg.core (fetchBytes { tick s with mode := .run } 5 s.pc) = .ok (i, n) →
    ∃ t, step s = .next t ∧ t.pc = s.pc + BitVec.ofNat 20 n ∧ t.skip = false ∧ t.inhibit = false
      ∧ t.queue = (tick s).queue ∧ Changes { tick s with mode := .run, skip := false, pmcDelay := s.pmcDelay - 1 } t
          unchanged unchanged []

/-- Code bytes come from code flash and from RAM below the registers; elsewhere the step is a fault. At a byte stored
since the last control transfer, each step's fetch has come to see the stores made so far or still sees what it saw, by
that byte's own free bit, so each of several stores may or may not be seen; right after a control transfer it sees them
all (20_memory.md R52, R75; 10_state.md R16; D8, D19; log 17 for the step by step choice). -/
def Obligations.FetchSeesCodeAreasOnly : Prop :=
  ∀ s : State, s.Legal →
    (∀ a, fetchable s.cfg a = true ↔ a ≤ s.cfg.flashTop ∨ (s.cfg.ramBase ≤ a ∧ a < 0xFFEE0))
    ∧ (∀ a, fetchByte (tick s) a
        = if Config.freeBit (s.draws + 1) (.staleFetch a) = true then s.mem.read a else fetchByte s a)
    ∧ (∀ target a, fetchByte (tick (jump s target)) a = s.mem.read a)
    ∧ ((currentInput s).reset = false → (s.mode = .run ∨ (currentInput s).release = true) →
        pendingRequest s (currentInput s).request = none → fetchable s.cfg s.pc.toNat = false →
        step s = .fault .fetchOutsideCode)

/-- An accepted request is taken before the next instruction: the frame holds PSW as it was and the address of that
instruction, SP is 4 less, IE is 0, ISP has the request's value, PC comes from the vector table entry; apart from an
interrupted unprotected division no register is changed (60_exceptions.md R404, R406, R407, 10_state.md R27; D15, D33,
D34). -/
def Obligations.StepTakesAnAcceptedInterrupt : Prop :=
  ∀ (s : State) (q : IrqRequest),
    s.Legal → (currentInput s).reset = false → (s.mode = .run ∨ (currentInput s).release = true) →
    s.inhibit = false → (currentInput s).request = some q → (q.maskable = true → s.psw.ie = true) →
    q.vector % 2 = 0 → 2 ≤ q.vector → q.vector ≤ 0x7C → FrameUsable s →
    ∃ t, step s = .next t ∧ t.mode = .run ∧ t.inhibit = false ∧ t.skip = false ∧ t.divHazard = false
      ∧ t.pc.toNat = (s.cell q.vector).toNat + 256 * (s.cell (q.vector + 1)).toNat ∧ t.queue = t.mem
      ∧ t.psw = { s.psw with ie := false, isp1 := q.newIsp.getLsbD 1, isp0 := q.newIsp.getLsbD 0 }
      ∧ t.sp = s.sp - 4 ∧ t.es = s.es ∧ t.cs = s.cs ∧ t.pmc = s.pmc ∧ t.macr = s.macr ∧ t.devLog = s.devLog
      ∧ (∀ a, (a < 0xFFEE0 ∨ 0xFFEFF < a) → t.cell a = (frameCells s s.psw.toByte s.pc a).getD (s.cell a))
      ∧ (∀ n, (s.divHazard = false ∨ n ≠ s.rbs) → t.bank n = s.bank n)

/-- No request is taken while the inhibit window is open, and no maskable one while IE = 0, whatever `Irq` answers: the
step runs or skips the next instruction, in standby without a release it waits (60_exceptions.md R403, R404, R420;
10_state.md R21, R36; log 20). -/
def Obligations.HeldRequestsChangeNothing : Prop :=
  ∀ (s : State) (q : IrqRequest),
    (currentInput s).reset = false → (currentInput s).request = some q →
    (s.inhibit = true ∨ (q.maskable = true ∧ s.psw.ie = false)) →
    step s = if s.mode = .run ∨ (currentInput s).release = true then runInstruction { tick s with mode := .run }
      else .next (tick s)

/-- In HALT or STOP mode a step without reset or release changes no register and no memory, only how much of earlier
stores fetch sees (log 17); a release ends the mode at that boundary (60_exceptions.md R420; D16; log 20, log 30). -/
def Obligations.StandbyWaitsForRelease : Prop :=
  ∀ s : State, s.mode ≠ .run → (currentInput s).reset = false →
    ((currentInput s).release = false → step s = .next { s with queue := (tick s).queue, draws := s.draws + 1 })
    ∧ ((currentInput s).release = true → step s = step { s with mode := .run })

/-- The reset signal acts in every state: PC from the word at 00000H with bits 19-16 zero, PSW 06H, ES 0FH, CS 00H,
PMC 00H, the hidden flags clear, run mode, flash as it was (70_reset_and_hazards.md R440, 10_state.md R38; D13, log 31
for the free values and for the flash bytes). -/
def Obligations.ResetSignalActsInEveryState : Prop :=
  ∀ s : State, s.Legal → (currentInput s).reset = true →
    ∃ t, step s = .next t ∧ t.pc.toNat = (s.mem.read 0).toNat + 256 * (s.mem.read 1).toNat
      ∧ t.psw.toByte = 0x06 ∧ t.es = 0x0F ∧ t.cs = 0x00 ∧ t.pmc = 0x00 ∧ t.sp.toNat % 2 = 0
      ∧ t.inhibit = false ∧ t.skip = false ∧ t.mode = .run ∧ t.cfg = s.cfg
      ∧ (∀ a, inRam s.cfg a = false → t.mem.read a = s.mem.read a)

/-- What the spec gives for the state after reset: PC from the word at 00000H with PC[19:16] = 0, PSW 06H, ES 0FH,
CS 00H, PMC 00H, `inhibit` 0, `skip` 0, run mode (10_state.md R38; D13 for the hidden flags). -/
def Obligations.ResetStateHasTheSpecsValues : Prop :=
  State.reset.pc.toNat = (State.reset.mem.read 0).toNat + 256 * (State.reset.mem.read 1).toNat
    ∧ State.reset.psw.toByte = 0x06 ∧ State.reset.es = 0x0F ∧ State.reset.cs = 0x00 ∧ State.reset.pmc = 0x00
    ∧ State.reset.inhibit = false ∧ State.reset.skip = false ∧ State.reset.mode = .run

/-- The state after reset is legal (the invariant of `EveryStepKeepsStatesLegal`). -/
def Obligations.ResetStateIsLegal : Prop := State.reset.Legal

/-- Every step from a legal state ends in a legal one: memory in canonical form, SP even, the unimplemented bits of ES,
CS, PMC 0, on S1 PSW bits 5 and 3 and MAA 0, a skip only inside a window, no window in standby (10_state.md R20, R29-R32,
R37; 60_exceptions.md R420; D17, D18, D37). -/
def Obligations.EveryStepKeepsStatesLegal : Prop :=
  ∀ s t : State, s.Legal → step s = .next t → t.Legal

/-- No step changes a byte of code flash or data flash, or any byte of memory outside internal RAM, or the product's
parameters: no instruction and no interrupt does (20_memory.md R70; D28), and neither does the reset signal
(70_reset_and_hazards.md R440, 10_state.md R38, which leave open whether flash survives a reset: that it keeps its bytes
is the model's choice, log 31). -/
def Obligations.NoStepChangesFlash : Prop :=
  ∀ s t : State, s.Legal → step s = .next t →
    t.cfg = s.cfg ∧ ∀ a, (a < s.cfg.ramBase ∨ 0xFFEFF < a) → t.mem.read a = s.mem.read a

/-- The hidden flags change as listed and by nothing else: exactly the instructions of 10_state.md R36 open the inhibit
window, exactly the skip instructions whose condition holds make the next instruction skipped (R37), and only HALT and
STOP leave run mode (R37). -/
def Obligations.OnlyListedInstructionsSetHiddenFlags : Prop :=
  ∀ (s t : State) (i : Instr), s.inhibit = false → s.skip = false → exec i s = .next t →
    (t.inhibit = true ↔ Inhibiting i)
    ∧ (t.skip = true ↔ ∃ c, Skip i c ∧ c s.psw = true)
    ∧ (t.mode = s.mode ∨ i = .halt ∨ i = .stop)

/-! ## The data path -/

/-- Bits 19-16 of a data address, times 65536: FH, or ES[3:0] in an `ES:` form (31_addressing.md R144). -/
def Sys2Proof.Forms.segBase (s : State) : Segment → Nat
  | .f => 0xF0000
  | .es => 65536 * (s.es.toNat % 16)

/-- `S : (base + off)`, refused when the sum exceeds FFFFH (31_addressing.md R141, R142, R145). -/
def Sys2Proof.Forms.SumOperand (s : State) (m : MemOp) (seg : Segment) (base off : Nat) : Prop :=
  if base + off ≤ 0xFFFF then ∃ a, memAddr s m = .ok (.data a) ∧ a.toNat = segBase s seg + base + off
  else memAddr s m = .error (.refused .addressSumOverflow)

/-- The address each memory operand denotes (31_addressing.md R137-R142, R144, R146; D10 for the refused sums, that
[SP+byte] wraps is the model's choice, log 10; log 22 for saddr). -/
def Obligations.OperandsDenoteTheirAddresses : Prop :=
  ∀ s : State,
    (∀ f : Byte, ∃ a, memAddr s (.saddr f) = .ok (.data a)
      ∧ a.toNat = if 0x20 ≤ f.toNat then 0xFFE00 + f.toNat else 0xFFF00 + f.toNat)
    ∧ (∀ f : Byte, ∃ a, memAddr s (.sfr f) = .ok (.data a) ∧ a.toNat = 0xFFF00 + f.toNat)
    ∧ (∀ seg w, ∃ a, memAddr s (.abs seg w) = .ok (.data a) ∧ a.toNat = segBase s seg + w.toNat)
    ∧ (∀ seg p, ∃ a, memAddr s (.indirect seg p) = .ok (.data a) ∧ a.toNat = segBase s seg + (s.pair p).toNat)
    ∧ (∀ seg p (off : Byte), SumOperand s (.based seg p off) seg (s.pair p).toNat off.toNat)
    ∧ (∀ seg r, SumOperand s (.indexed seg r) seg (s.pair .hl).toNat (s.reg r).toNat)
    ∧ (∀ seg w r, SumOperand s (.wordReg seg w r) seg w.toNat (s.reg r).toNat)
    ∧ (∀ seg w, SumOperand s (.wordBc seg w) seg w.toNat (s.pair .bc).toNat)
    ∧ (∀ off : Byte, ∃ w, memAddr s (.spOff off) = .ok (.stack w) ∧ w.toNat = (s.sp.toNat + off.toNat) % 65536)

/-- A product SFR stands at an address: the 2nd SFR area, and the SFR area but for SPL, SPH, PSW, CS, ES, PMC and, on S3,
MACR (20_memory.md R51, R64, R65; 10_state.md R33, R34). -/
def Sys2Proof.Forms.IsDevice (core : CpuCore) (n : Nat) : Prop :=
  (0xF0000 ≤ n ∧ n ≤ 0xF07FF)
    ∨ (0xFFF00 ≤ n ∧ (n < 0xFFFF8 ∨ n = 0xFFFFB ∨ n = 0xFFFFF) ∧ ¬(core = .s3 ∧ 0xFFFF0 ≤ n ∧ n ≤ 0xFFFF3))

/-- Nothing stands at an address: above code flash, below RAM, and no 2nd SFR, data flash or mirror (20_memory.md R51
step 7). -/
def Sys2Proof.Forms.IsUnusable (c : Config) (n : Nat) : Prop :=
  c.flashTop < n ∧ (n < 0xF0000 ∨ 0xF07FF < n) ∧ n < c.ramBase
    ∧ inRanges c.dflash.toList n = false ∧ inRanges c.mirror n = false

/-- What a data read finds, area by area, in the order of 20_memory.md R51: the CPU registers at their SFR addresses
(10_state.md R33, R34), the product's SFRs and 2nd SFRs, RAM, the general registers at RegAddr(b, i) (R13), data flash,
the mirror (20_memory.md R62; right after a PMC write some byte, wherever the source lies: 70_reset_and_hazards.md R452,
D35, log 14), code flash; elsewhere, a mirror address whose source lies above FLASH_TOP among it, a fault (D36; log 19
for the SFRs, log 18 for the faults; log 12 and D31 for the registers by address). -/
def Obligations.DataReadsResolveByArea : Prop :=
  ∀ (s : State) (a : Addr), s.Legal →
    (a = 0xFFFF8 → readByte s a = .ok (lowByte s.sp)) ∧ (a = 0xFFFF9 → readByte s a = .ok (highByte s.sp))
    ∧ (a = 0xFFFFA → readByte s a = .ok s.psw.toByte) ∧ (a = 0xFFFFC → readByte s a = .ok s.cs)
    ∧ (a = 0xFFFFD → readByte s a = .ok s.es) ∧ (a = 0xFFFFE → readByte s a = .ok s.pmc)
    ∧ (∀ k, k < 4 → s.cfg.core = .s3 → a.toNat = 0xFFFF0 + k →
        readByte s a = .ok (BitVec.ofNat 8 (s.macr.toNat / 256 ^ k)))
    ∧ (IsDevice s.cfg.core a.toNat → readByte s a = .ok (Config.sfrByte s.devLog a.toNat))
    ∧ (s.cfg.ramBase ≤ a.toNat → a.toNat < 0xFFEE0 → readByte s a = .ok (s.mem.read a.toNat))
    ∧ (∀ n r, a.toNat = regAddr n r → (s.cfg.core = .s1 → n = .rb0) → readByte s a = .ok ((s.bank n).get r))
    ∧ (s.cfg.core = .s1 → 0xFFEE0 ≤ a.toNat → a.toNat < 0xFFEF8 → readByte s a = .error (.fault .unusableArea))
    ∧ (∀ lo hi, s.cfg.dflash = some (lo, hi) → lo ≤ a.toNat → a.toNat ≤ hi → readByte s a = .ok (s.mem.read a.toNat))
    ∧ (inRanges s.cfg.mirror a.toNat = true → mirrorSource s a.toNat ≤ s.cfg.flashTop → s.pmcDelay ≠ 1 →
        readByte s a = .ok (s.mem.read (mirrorSource s a.toNat)))
    ∧ (inRanges s.cfg.mirror a.toNat = true → s.cfg.flashTop < mirrorSource s a.toNat → s.pmcDelay ≠ 1 →
        readByte s a = .error (.fault .unusableArea))
    ∧ (inRanges s.cfg.mirror a.toNat = true → s.pmcDelay = 1 → ∃ v, readByte s a = .ok v)
    ∧ (a.toNat ≤ s.cfg.flashTop → readByte s a = .ok (s.mem.read a.toNat))
    ∧ (IsUnusable s.cfg a.toNat → readByte s a = .error (.fault .unusableArea))

/-- A store to code flash, data flash or the mirror, to an unusable area (a mirror address whose source lies above
FLASH_TOP among them), or of an odd byte to PMC on S1 stops, each by name; and a move whose destination is any such place
stops as the store does (20_memory.md R51, R55, R70; 10_state.md R30; 70_reset_and_hazards.md R452 for the mirror right
after a PMC write; D28, D36, D37; logs 14, 18, 24, 28). -/
def Obligations.StoresOutsideWritableAreasStop : Prop :=
  ∀ (s : State) (a : Addr) (v : Byte), s.Legal →
    (a.toNat ≤ s.cfg.flashTop → writeByte s a v = .error (.refused .flashStore))
    ∧ (∀ lo hi, s.cfg.dflash = some (lo, hi) → lo ≤ a.toNat → a.toNat ≤ hi →
        writeByte s a v = .error (.refused .flashStore))
    ∧ (inRanges s.cfg.mirror a.toNat = true → (mirrorSource s a.toNat ≤ s.cfg.flashTop ∨ s.pmcDelay = 1) →
        writeByte s a v = .error (.refused .flashStore))
    ∧ (inRanges s.cfg.mirror a.toNat = true → s.cfg.flashTop < mirrorSource s a.toNat → s.pmcDelay ≠ 1 →
        writeByte s a v = .error (.fault .unusableArea))
    ∧ (s.cfg.core = .s1 → 0xFFEE0 ≤ a.toNat → a.toNat < 0xFFEF8 → writeByte s a v = .error (.fault .unusableArea))
    ∧ (IsUnusable s.cfg a.toNat → writeByte s a v = .error (.fault .unusableArea))
    ∧ (s.cfg.core = .s1 → a = 0xFFFFE → v.toNat % 2 = 1 → writeByte s a v = .error (.refused .pmcOnS1))
    ∧ (∀ i m src, Move8 i (.mem m) src → src.value s = .ok v → memAddr s m = .ok (.data a) →
        (∀ r, writeByte s a v = .error (.refused r) → exec i s = .refused r)
        ∧ (∀ f, writeByte s a v = .error (.fault f) → exec i s = .fault f))

/-- A word access takes bit 0 of its address as 0, in every form; at whatever area, its low byte is the byte at the even
address `b` and its high byte the byte at `b+1`, read or written in that order, but for two bytes of product SFR space,
which are one 16-bit access (D30, log 36). So too the word of [SP+byte], on stack bytes, at SP + byte
modulo 65536: R145 does not name [SP+byte], and that its sum wraps is the model's choice, log 10 (20_memory.md R50, R53;
31_addressing.md R145; D9; log 11). A word operand in memory has the word at its address as its value. -/
def Obligations.WordAccessIsEvenAndLittleEndian : Prop :=
  ∀ (s : State) (a b : Addr), s.Legal → b.toNat = 2 * (a.toNat / 2) →
    (readWord s a = readWord s b ∧ ∀ v, writeWord s a v = writeWord s b v)
    ∧ (IsDevice s.cfg.core b.toNat → IsDevice s.cfg.core (b.toNat + 1) →
        readWord s a = .ok (Config.sfrWord s.devLog b.toNat)
        ∧ ∀ v, writeWord s a v = .ok { s with devLog := s.devLog ++ [.write16 b.toNat v] })
    ∧ (¬(IsDevice s.cfg.core b.toNat ∧ IsDevice s.cfg.core (b.toNat + 1)) →
        (∀ lo hi : Byte, readByte s b = .ok lo → readByte s (b + 1) = .ok hi →
          ∃ w, readWord s a = .ok w ∧ w.toNat = lo.toNat + 256 * hi.toNat)
        ∧ (∀ st, readByte s b = .error st → readWord s a = .error st)
        ∧ (∀ lo st, readByte s b = .ok lo → readByte s (b + 1) = .error st → readWord s a = .error st)
        ∧ (∀ (v : Word) t, writeByte s b (BitVec.ofNat 8 v.toNat) = .ok t →
          writeWord s a v = writeByte t (b + 1) (BitVec.ofNat 8 (v.toNat / 256)))
        ∧ (∀ (v : Word) st, writeByte s b (BitVec.ofNat 8 v.toNat) = .error st → writeWord s a v = .error st))
    ∧ (∀ m, memAddr s m = .ok (.data a) → (Loc16.mem m).value s = readWord s a)
    ∧ (∀ (off : Byte) (e : Word) (lo hi : Byte), e.toNat = (s.sp.toNat + off.toNat) % 65536 / 2 * 2 →
        (stackRead s e = .ok lo → stackRead s (e + 1) = .ok hi →
          ∃ w, (Loc16.mem (.spOff off)).value s = .ok w ∧ w.toNat = lo.toNat + 256 * hi.toNat)
        ∧ (∀ st, stackRead s e = .error st → (Loc16.mem (.spOff off)).value s = .error st))

/-- A byte or word stored in RAM or in a general register is what a later read finds, and a read of any other address of
the whole space finds what it found before; the byte at `a+1` after a word was stored at an even `a` is bits 15-8 of the
word (20_memory.md R50, R72; D7). -/
def Obligations.StoreThenLoadGivesTheValue : Prop :=
  ∀ (s : State) (a : Addr), s.Legal → s.cfg.ramBase ≤ a.toNat → a.toNat ≤ 0xFFEFF →
    ¬(s.cfg.core = .s1 ∧ 0xFFEE0 ≤ a.toNat ∧ a.toNat < 0xFFEF8) →
    (∀ v, ∃ t, writeByte s a v = .ok t ∧ readByte t a = .ok v ∧ ∀ b : Addr, b ≠ a → readByte t b = readByte s b)
    ∧ (∀ v : Word, a.toNat % 2 = 0 → ∃ t, writeWord s a v = .ok t ∧ readWord t a = .ok v
        ∧ readByte t a = .ok (BitVec.ofNat 8 v.toNat) ∧ readByte t (a + 1) = .ok (BitVec.ofNat 8 (v.toNat / 256))
        ∧ ∀ b : Addr, b ≠ a → b ≠ a + 1 → readByte t b = readByte s b)

/-- A stack byte lies at F0000H + offset: in internal RAM below the registers it is the RAM byte; in the register area the
access is refused; outside internal RAM, the unusable FFEE0H-FFEF7H of S1 among it, a write is dropped and a read gives
some value (10_state.md R16, R28, R29; 48_call_return_stack.md R330; U6, D11; log 9 for FFEE0H-FFEF7H on S1, log 8, log
43 for [SP+byte]). -/
def Obligations.StackBytesLieInRam : Prop :=
  ∀ (s : State) (off : Word) (v : Byte), s.Legal →
    (s.cfg.ramBase ≤ 0xF0000 + off.toNat → off.toNat < 0xFEE0 →
      stackRead s off = .ok (s.mem.read (0xF0000 + off.toNat))
      ∧ ∃ t, stackWrite s off v = .ok t ∧ t.mem = s.mem.write (0xF0000 + off.toNat) v)
    ∧ ((if s.cfg.core = .s1 then 0xFEF8 else 0xFEE0) ≤ off.toNat → off.toNat ≤ 0xFEFF →
      stackRead s off = .error (.refused .registerAreaStack) ∧ stackWrite s off v = .error (.refused .registerAreaStack))
    ∧ ((0xF0000 + off.toNat < s.cfg.ramBase ∨ 0xFEFF < off.toNat
        ∨ (s.cfg.core = .s1 ∧ 0xFEE0 ≤ off.toNat ∧ off.toNat < 0xFEF8)) →
      stackWrite s off v = .ok s ∧ ∃ b, stackRead s off = .ok b)

/-! ## Transfers -/

/-- MOV (but to PSW), ONEB, CLRB: the destination has the source's value, nothing else changes; a destination that is a
CPU register by address is written as that register (40_transfer8.md R171, R173, R175, R176; 31_addressing.md R147; D18,
log 13 and D31, log 12 where the destination is ES, CS, PMC or another CPU register by address). -/
def Obligations.MoveStoresTheSourceByte : Prop :=
  ∀ (s : State) (i : Instr) (dst : Loc8) (src : Src8) (v : Byte),
    s.Legal → Move8 i dst src → src.value s = .ok v → Writable8 s v dst →
    Completes i s (stored8 s v dst) (storedCpu8 s v dst) (sourceEvents8 s src ++ writeEvents8 s v dst)

/-- MOV PSW,#byte and MOV PSW,A: all bits of PSW (on S1 but bits 5 and 3, which stay 0; D17) have the source's value, and
interrupts are held until after the next instruction (40_transfer8.md R172, 10_state.md R36). -/
def Obligations.MoveToPswWritesAllFlags : Prop :=
  ∀ (s : State) (i : Instr) (src : Src8) (v : Byte),
    s.Legal → MovePsw i src → src.value s = .ok v →
    CompletesInhibiting i s unchanged
      (fun r => if r = .psw then some (if s.cfg.core = .s1 then v &&& 0xD7 else v) else none) []

/-- XCH A with a byte of memory: one read, then one write of the same address; A of the bank selected at the start has
the byte, the byte has A (40_transfer8.md R174; log 26 where the byte is PSW; D18, log 13 and D31, log 12 where the
destination is ES, CS, PMC or another CPU register by address). -/
def Obligations.ExchangeSwapsAWithMemory : Prop :=
  ∀ (s : State) (i : Instr) (m : MemOp) (v : Byte),
    s.Legal → ExchangeMem i m → (Loc8.mem m).value s = .ok v → Writable8 s (s.reg .a) (.mem m) →
    Completes i s (fun x => (stored8 s (s.reg .a) (.mem m) x).or (stored8 s v (.reg .a) x))
      (storedCpu8 s (s.reg .a) (.mem m)) (readEvents8 s (.mem m) ++ writeEvents8 s (s.reg .a) (.mem m))

/-- XCH A,r and XCHW AX,rp: the two registers or pairs have each other's values (40_transfer8.md R174, 41_transfer16.md
R202). -/
def Obligations.ExchangeSwapsRegisters : Prop :=
  ∀ s : State, s.Legal →
    (∀ i r, ExchangeReg i r → Completes i s
      (fun x => (stored8 s (s.reg r) (.reg .a) x).or (stored8 s (s.reg .a) (.reg r) x)) unchanged [])
    ∧ (∀ rp, rp ≠ .ax → Completes (.xchwAxRp rp) s
      (fun x => (stored16 s (s.pair rp) (.pair .ax) x).or (stored16 s (s.pair .ax) (.pair rp) x)) unchanged [])

/-- MOVS: X is stored; Z is 1 iff X is 0, CY is 1 iff A or X is 0, AC is as it was (40_transfer8.md R177; A and X
as they were before the store, the model's choice where the byte is A itself or PSW, log 44; where it is PSW, Z and CY
come last, log 27, and AC is bit 4 of X, the model's choice, log 45; D18, log 13 and D31, log 12 where the destination is
ES, CS, PMC or another CPU register by address). -/
def Obligations.MoveStringStoresXAndSetsFlags : Prop :=
  ∀ (s : State) (i : Instr) (m : MemOp),
    s.Legal → MoveString i m → Writable8 s (s.reg .x) (.mem m) →
    Completes i s (stored8 s (s.reg .x) (.mem m))
      (storedWithFlags s (s.reg .x) (.mem m) fun p =>
        { p with z := decide (s.reg .x = 0), cy := decide (s.reg .a = 0 ∨ s.reg .x = 0) })
      (writeEvents8 s (s.reg .x) (.mem m))

/-- MOVW, ONEW, CLRW, SP as an operand among them: the destination has the source's word, its low byte at the even
address or in the low register; a value written to SP has bit 0 made 0 (41_transfer16.md R200, R201, R203, R204;
48_call_return_stack.md R339; 10_state.md R29; D9; log 11 for odd word addresses; D18, log 13 and D31, log 12 where the
destination is ES, CS, PMC or another CPU register by address). -/
def Obligations.MoveStoresTheSourceWord : Prop :=
  ∀ (s : State) (i : Instr) (dst : Loc16) (src : Src16) (v : Word),
    s.Legal → Move16 i dst src → src.value s = .ok v → Writable16 s v dst →
    Completes i s (stored16 s v dst) (storedCpu16 s v dst) (sourceEvents16 s src ++ writeEvents16 s v dst)

/-! ## 8-bit arithmetic and logic -/

/-- ADD and ADDC: the sum modulo 256, CY the carry out of bit 7, AC the carry from bit 3, Z of the 8-bit result
(42_alu8.md R220-R222; log 27 where the destination is PSW; D18, log 13 and D31, log 12 where the destination is ES, CS,
PMC or another CPU register by address). -/
def Obligations.AdditionGivesSumAndFlags : Prop :=
  ∀ (s : State) (i : Instr) (carry : Bool) (dst : Loc8) (src : Src8) (a b : Byte) (c n : Nat) (r : Byte),
    s.Legal → Add8 i carry dst src → dst.value s = .ok a → src.value s = .ok b →
    c = (if carry ∧ s.psw.cy then 1 else 0) → n = a.toNat + b.toNat + c → r = BitVec.ofNat 8 n →
    Writable8 s r dst →
    Completes i s (stored8 s r dst)
      (storedWithFlags s r dst fun p => p.withFlags (decide (n % 256 = 0))
        (decide (16 ≤ a.toNat % 16 + b.toNat % 16 + c)) (decide (256 ≤ n)))
      (readEvents8 s dst ++ sourceEvents8 s src ++ writeEvents8 s r dst)

/-- SUB and SUBC: the difference modulo 256, CY the borrow at bit 7, AC the borrow from bit 4, Z of the 8-bit result
(42_alu8.md R220, R223, R224; log 27 where the destination is PSW; D18, log 13 and D31, log 12 where the destination is
ES, CS, PMC or another CPU register by address). -/
def Obligations.SubtractionGivesDifferenceAndFlags : Prop :=
  ∀ (s : State) (i : Instr) (carry : Bool) (dst : Loc8) (src : Src8) (a b : Byte) (c : Nat) (r : Byte),
    s.Legal → Sub8 i carry dst src → dst.value s = .ok a → src.value s = .ok b →
    c = (if carry ∧ s.psw.cy then 1 else 0) → r.toNat = (a.toNat + 256 - (b.toNat + c)) % 256 →
    Writable8 s r dst →
    Completes i s (stored8 s r dst)
      (storedWithFlags s r dst fun p => p.withFlags (decide (r = 0))
        (decide (a.toNat % 16 < b.toNat % 16 + c)) (decide (a.toNat < b.toNat + c)))
      (readEvents8 s dst ++ sourceEvents8 s src ++ writeEvents8 s r dst)

/-- AND, OR, XOR: the bitwise result, Z iff it is 0, AC and CY as they were (42_alu8.md R220, R225-R227; log 27 where
the destination is PSW; D18, log 13 and D31, log 12 where the destination is ES, CS, PMC or another CPU register by
address). -/
def Obligations.LogicGivesResultAndZ : Prop :=
  ∀ (s : State) (i : Instr) (f : Byte → Byte → Byte) (dst : Loc8) (src : Src8) (a b : Byte),
    s.Legal → Logic8 i f dst src → dst.value s = .ok a → src.value s = .ok b → Writable8 s (f a b) dst →
    Completes i s (stored8 s (f a b) dst)
      (storedWithFlags s (f a b) dst fun p => { p with z := decide (f a b = 0) })
      (readEvents8 s dst ++ sourceEvents8 s src ++ writeEvents8 s (f a b) dst)

/-- CMP and CMP0 store nothing: Z iff equal, CY iff below (unsigned), AC the borrow from bit 4; CMP0 clears AC and CY
(42_alu8.md R220, R228, R229). -/
def Obligations.CompareSetsFlagsOnly : Prop :=
  ∀ (s : State) (i : Instr) (dst : Loc8) (a : Byte), s.Legal → dst.value s = .ok a →
    (∀ src b, Compare8 i dst src → src.value s = .ok b →
      Completes i s unchanged
        (onlyPsw (s.psw.withFlags (decide (a = b)) (decide (a.toNat % 16 < b.toNat % 16)) (decide (a.toNat < b.toNat))))
        (readEvents8 s dst ++ sourceEvents8 s src))
    ∧ (CompareZero i dst →
      Completes i s unchanged (onlyPsw (s.psw.withFlags (decide (a = 0)) false false)) (readEvents8 s dst))

/-- CMPS: X is compared with the byte, nothing is stored; CY is 1 iff they differ or A is 0 or X is 0 (42_alu8.md
R230). -/
def Obligations.CompareStringSetsFlagsOnly : Prop :=
  ∀ (s : State) (i : Instr) (m : MemOp) (v : Byte),
    s.Legal → CompareString i m → (Loc8.mem m).value s = .ok v →
    Completes i s unchanged
      (onlyPsw (s.psw.withFlags (decide (s.reg .x = v)) (decide ((s.reg .x).toNat % 16 < v.toNat % 16))
        (decide (s.reg .x ≠ v ∨ s.reg .a = 0 ∨ s.reg .x = 0))))
      (readEvents8 s (.mem m))

/-! ## 16-bit arithmetic, multiplication, division -/

/-- ADDW, SUBW, CMPW with AX: sum or difference modulo 65536 (CMPW stores nothing), CY carry or borrow at bit 15, Z of
the 16-bit result, AC any value (43_alu16.md R250-R253; D12; D9, log 11 for odd word addresses). -/
def Obligations.WordArithmeticGivesResultAndFlags : Prop :=
  ∀ (s : State) (i : Instr) (src : Src16) (a b : Nat) (w : Word),
    s.Legal → src.value s = .ok w → a = (s.pair .ax).toNat → b = w.toNat →
    (Add16 i src → ∃ ac, Completes i s (stored16 s (BitVec.ofNat 16 (a + b)) (.pair .ax))
      (onlyPsw (s.psw.withFlags (decide ((a + b) % 65536 = 0)) ac (decide (65536 ≤ a + b)))) (sourceEvents16 s src))
    ∧ (Sub16 i src → ∃ ac, Completes i s (stored16 s (BitVec.ofNat 16 (a + 65536 - b)) (.pair .ax))
      (onlyPsw (s.psw.withFlags (decide (a = b)) ac (decide (a < b)))) (sourceEvents16 s src))
    ∧ (Compare16 i src → ∃ ac, Completes i s unchanged
      (onlyPsw (s.psw.withFlags (decide (a = b)) ac (decide (a < b)))) (sourceEvents16 s src))

/-- MULU X, and on S3 MULHU and MULH: the product, unsigned or signed, in AX or BC:AX; no flag changes (44_muldiv.md
R261-R263). -/
def Obligations.MultiplicationGivesTheProduct : Prop :=
  encode .muluX = [0xD6] ∧ encode .mulhu = [0xCE, 0xFB, 0x01] ∧ encode .mulh = [0xCE, 0xFB, 0x02]
    ∧ ∀ s : State, s.Legal →
      Completes .muluX s (stored16 s (BitVec.ofNat 16 ((s.reg .a).toNat * (s.reg .x).toNat)) (.pair .ax)) unchanged []
      ∧ (s.cfg.core = .s3 →
        Completes .mulhu s (stored32 s ((s.pair .ax).toNat * (s.pair .bc).toNat) .bc .ax) unchanged []
        ∧ ∀ p : Nat, (p : Int) = ((s.pair .ax).toInt * (s.pair .bc).toInt) % 2 ^ 32 →
          Completes .mulh s (stored32 s p .bc .ax) unchanged [])

/-- The byte at nextPC can be fetched and is NOP, 00H (44_muldiv.md R268, 20_memory.md R52). -/
def Sys2Proof.Forms.NopFollows (s : State) : Prop :=
  (s.pc.toNat ≤ s.cfg.flashTop ∨ (s.cfg.ramBase ≤ s.pc.toNat ∧ s.pc.toNat < 0xFFEE0)) ∧ s.mem.read s.pc.toNat = 0

/-- DIVHU and DIVWU on S3: quotient and remainder, the dividend and all ones when the divisor is 0; no flag changes
(44_muldiv.md R264, R265); a division with IE = 1 that was fetched from RAM or that no NOP follows is marked as
unprotected (R268; D33; log 15). -/
def Obligations.DivisionGivesQuotientAndRemainder : Prop :=
  ∀ (s : State) (ax de n d : Nat), s.Legal → s.cfg.core = .s3 → ax = (s.pair .ax).toNat → de = (s.pair .de).toNat →
    n = (s.pair .bc).toNat * 65536 + ax → d = (s.pair .hl).toNat * 65536 + de →
    (∃ t, exec .divhu s = .next t
      ∧ Changes s t (fun x =>
          (stored16 s (if de = 0 then 0xFFFF else BitVec.ofNat 16 (ax / de)) (.pair .ax) x).or
            (stored16 s (if de = 0 then BitVec.ofNat 16 ax else BitVec.ofNat 16 (ax % de)) (.pair .de) x)) unchanged []
      ∧ Follows s t ∧ t.inhibit = s.inhibit
      ∧ (t.divHazard = true ↔ s.psw.ie = true ∧ (inRam s.cfg (s.pc - 1).toNat = true ∨ ¬ NopFollows s)))
    ∧ (∃ t, exec .divwu s = .next t
      ∧ Changes s t (fun x =>
          (stored32 s (if d = 0 then 0xFFFFFFFF else n / d) .bc .ax x).or
            (stored32 s (if d = 0 then n else n % d) .hl .de x)) unchanged []
      ∧ Follows s t ∧ t.inhibit = s.inhibit
      ∧ (t.divHazard = true ↔ s.psw.ie = true ∧ (inRam s.cfg (s.pc - 1).toNat = true ∨ ¬ NopFollows s)))

/-- MACR becomes `v`, PSW becomes `p`, no other CPU register byte changes. -/
def Sys2Proof.Forms.macrAndPsw (v : DWord) (p : Psw) : CpuSfr → Option Byte
  | .macr k => some (BitVec.ofNat 8 (v.toNat / 256 ^ k.val))
  | .psw => some p.toByte
  | _ => none

/-- MACHU and MACH on S3: MACR plus the product; CY overflow, AC 0 or the sign of the new MACR, Z as it was; AX and BC are
unchanged (44_muldiv.md R266, R267; D32 for MACR after an overflow). -/
def Obligations.MultiplyAccumulateAddsToMacr : Prop :=
  ∀ (s : State) (n : Nat) (z : Int), s.Legal → s.cfg.core = .s3 →
    n = s.macr.toNat + (s.pair .ax).toNat * (s.pair .bc).toNat →
    z = s.macr.toInt + (s.pair .ax).toInt * (s.pair .bc).toInt →
    Completes .machu s unchanged
      (macrAndPsw (BitVec.ofNat 32 n) { s.psw with ac := false, cy := decide (2 ^ 32 ≤ n) }) []
    ∧ Completes .mach s unchanged
      (macrAndPsw (BitVec.ofInt 32 z)
        { s.psw with ac := decide ((BitVec.ofInt 32 z).toInt < 0), cy := decide (0x7FFFFFFF < z ∨ z < -0x80000000) }) []

/-! ## Increment, decrement, shift, rotate -/

/-- INC and DEC: plus or minus 1 modulo 256; Z of the result, AC the carry or borrow at bit 3, CY as it was
(45_incdec.md R280, R281; where the destination is PSW itself CY is bit 0 of the result, the model's choice, log 45, and Z
and AC come last, log 27; D18, log 13 and D31, log 12 where the destination is ES, CS, PMC or another CPU register by
address). -/
def Obligations.IncrementAndDecrementBytes : Prop :=
  ∀ (s : State) (i : Instr) (dst : Loc8) (v r : Byte), s.Legal → dst.value s = .ok v → Writable8 s r dst →
    (Inc8 i dst → r.toNat = (v.toNat + 1) % 256 →
      Completes i s (stored8 s r dst)
        (storedWithFlags s r dst fun p => { p with z := decide (r = 0), ac := decide (v.toNat % 16 = 15) })
        (readEvents8 s dst ++ writeEvents8 s r dst))
    ∧ (Dec8 i dst → r.toNat = (v.toNat + 255) % 256 →
      Completes i s (stored8 s r dst)
        (storedWithFlags s r dst fun p => { p with z := decide (r = 0), ac := decide (v.toNat % 16 = 0) })
        (readEvents8 s dst ++ writeEvents8 s r dst))

/-- INCW and DECW: plus or minus 1 modulo 65536, no flag changes (45_incdec.md R282, R283; where a byte is PSW itself its
flags are those of the stored byte, the model's choice, log 45; D9, log 11 for odd word addresses; D18, log 13
and D31, log 12 where the destination is ES, CS, PMC or another CPU register by address). -/
def Obligations.IncrementAndDecrementWords : Prop :=
  ∀ (s : State) (i : Instr) (dst : Loc16) (v r : Word), s.Legal → dst.value s = .ok v → Writable16 s r dst →
    (Inc16 i dst ∧ r.toNat = (v.toNat + 1) % 65536) ∨ (Dec16 i dst ∧ r.toNat = (v.toNat + 65535) % 65536) →
    Completes i s (stored16 s r dst) (storedCpu16 s r dst) (readEvents16 s dst ++ writeEvents16 s r dst)

/-- A register operation: the register has `v`, CY has `cy`, Z and AC are as they were. -/
def Sys2Proof.Forms.ShiftsReg (i : Instr) (s : State) (r : Reg) (v : Nat) (cy : Prop) [Decidable cy] : Prop :=
  Completes i s (stored8 s (BitVec.ofNat 8 v) (.reg r)) (onlyPsw { s.psw with cy := decide cy }) []

/-- A pair operation: the pair has `v`, CY has `cy`, Z and AC are as they were. -/
def Sys2Proof.Forms.ShiftsPair (i : Instr) (s : State) (p : RegPair) (v : Nat) (cy : Prop) [Decidable cy] : Prop :=
  Completes i s (stored16 s (BitVec.ofNat 16 v) (.pair p)) (onlyPsw { s.psw with cy := decide cy }) []

/-- `v` shifted right by `cnt` with the sign bit replicated, as an unsigned number of `w` bits. -/
def Sys2Proof.Forms.arithRight (w v cnt : Nat) : Nat :=
  if v < 2 ^ (w - 1) then v / 2 ^ cnt else 2 ^ w - 2 ^ (w - cnt) + v / 2 ^ cnt

/-- The shifts, by 1 to 7 or 1 to 15: zeros enter, or the sign is kept; CY is the last bit shifted out; no other flag
changes; and their codes (46_shift_rotate.md R291-R296). -/
def Obligations.ShiftsGiveResultAndCarry : Prop :=
  ∀ (s : State) (cnt : Fin 16) (a b c ax bc : Nat), s.Legal → 1 ≤ cnt.val → a = (s.reg .a).toNat →
    b = (s.reg .b).toNat → c = (s.reg .c).toNat → ax = (s.pair .ax).toNat → bc = (s.pair .bc).toNat →
    (cnt.val ≤ 7 →
      (encode (.shrA cnt) = [0x31, BitVec.ofNat 8 (16 * cnt.val + 0xA)]
        ∧ ShiftsReg (.shrA cnt) s .a (a / 2 ^ cnt.val) (a / 2 ^ (cnt.val - 1) % 2 = 1))
      ∧ (encode (.shlA cnt) = [0x31, BitVec.ofNat 8 (16 * cnt.val + 9)]
        ∧ ShiftsReg (.shlA cnt) s .a (a * 2 ^ cnt.val % 256) (a / 2 ^ (8 - cnt.val) % 2 = 1))
      ∧ (encode (.shlB cnt) = [0x31, BitVec.ofNat 8 (16 * cnt.val + 8)]
        ∧ ShiftsReg (.shlB cnt) s .b (b * 2 ^ cnt.val % 256) (b / 2 ^ (8 - cnt.val) % 2 = 1))
      ∧ (encode (.shlC cnt) = [0x31, BitVec.ofNat 8 (16 * cnt.val + 7)]
        ∧ ShiftsReg (.shlC cnt) s .c (c * 2 ^ cnt.val % 256) (c / 2 ^ (8 - cnt.val) % 2 = 1))
      ∧ (encode (.sarA cnt) = [0x31, BitVec.ofNat 8 (16 * cnt.val + 0xB)]
        ∧ ShiftsReg (.sarA cnt) s .a (arithRight 8 a cnt.val) (a / 2 ^ (cnt.val - 1) % 2 = 1)))
    ∧ (encode (.shrwAx cnt) = [0x31, BitVec.ofNat 8 (16 * cnt.val + 0xE)]
        ∧ ShiftsPair (.shrwAx cnt) s .ax (ax / 2 ^ cnt.val) (ax / 2 ^ (cnt.val - 1) % 2 = 1))
    ∧ (encode (.shlwAx cnt) = [0x31, BitVec.ofNat 8 (16 * cnt.val + 0xD)]
        ∧ ShiftsPair (.shlwAx cnt) s .ax (ax * 2 ^ cnt.val % 65536) (ax / 2 ^ (16 - cnt.val) % 2 = 1))
    ∧ (encode (.shlwBc cnt) = [0x31, BitVec.ofNat 8 (16 * cnt.val + 0xC)]
        ∧ ShiftsPair (.shlwBc cnt) s .bc (bc * 2 ^ cnt.val % 65536) (bc / 2 ^ (16 - cnt.val) % 2 = 1))
    ∧ (encode (.sarwAx cnt) = [0x31, BitVec.ofNat 8 (16 * cnt.val + 0xF)]
        ∧ ShiftsPair (.sarwAx cnt) s .ax (arithRight 16 ax cnt.val) (ax / 2 ^ (cnt.val - 1) % 2 = 1))

/-- The rotates, by one bit, with or without CY in the ring; CY is the bit that left; no other flag changes; and their
codes (46_shift_rotate.md R297-R301). -/
def Obligations.RotatesGiveResultAndCarry : Prop :=
  (encode .rorA = [0x61, 0xDB] ∧ encode .rolA = [0x61, 0xEB] ∧ encode .rorcA = [0x61, 0xFB]
    ∧ encode .rolcA = [0x61, 0xDC] ∧ encode .rolwcAx = [0x61, 0xEE] ∧ encode .rolwcBc = [0x61, 0xFE])
  ∧ ∀ (s : State) (a ax bc c : Nat), s.Legal → a = (s.reg .a).toNat → ax = (s.pair .ax).toNat →
    bc = (s.pair .bc).toNat → c = (if s.psw.cy then 1 else 0) →
    ShiftsReg .rorA s .a (a / 2 + 128 * (a % 2)) (a % 2 = 1)
    ∧ ShiftsReg .rolA s .a (2 * a % 256 + a / 128) (a / 128 = 1)
    ∧ ShiftsReg .rorcA s .a (a / 2 + 128 * c) (a % 2 = 1)
    ∧ ShiftsReg .rolcA s .a (2 * a % 256 + c) (a / 128 = 1)
    ∧ ShiftsPair .rolwcAx s .ax (2 * ax % 65536 + c) (ax / 32768 = 1)
    ∧ ShiftsPair .rolwcBc s .bc (2 * bc % 65536 + c) (bc / 32768 = 1)

/-! ## Bit manipulation -/

/-- MOV1, AND1, OR1, XOR1 of CY with a bit, SET1 CY, CLR1 CY, NOT1 CY: CY has the result, every other flag is as it was,
no window opens, also for a bit of PSW; NOT1 CY is 71H C0H (47_bit.md R310-R317). -/
def Obligations.BitInstructionsComputeCy : Prop :=
  encode .not1Cy = [0x71, 0xC0] ∧ ∀ s : State, s.Legal →
    (∀ i f src bit v, BitToCy i f src bit → src.value s = .ok v →
      Completes i s unchanged
        (onlyPsw { s.psw with cy := f s.psw.cy (decide (v.toNat / 2 ^ bit.val % 2 = 1)) }) (readEvents8 s src))
    ∧ (∀ i f bit, PswBitToCy i f bit →
      Completes i s unchanged
        (onlyPsw { s.psw with cy := f s.psw.cy (decide (s.psw.toByte.toNat / 2 ^ bit.val % 2 = 1)) }) [])
    ∧ Completes .set1Cy s unchanged (onlyPsw { s.psw with cy := true }) []
    ∧ Completes .clr1Cy s unchanged (onlyPsw { s.psw with cy := false }) []
    ∧ Completes .not1Cy s unchanged (onlyPsw { s.psw with cy := !s.psw.cy }) []

/-- MOV1 X.bit,CY, SET1 X.bit, CLR1 X.bit outside PSW: the byte is read and written back with that one bit changed; no
flag changes, no window opens (47_bit.md R310, R311, R315, R316; D29; D18, log 13 and D31, log 12 where the destination
is ES, CS, PMC or another CPU register by address). -/
def Obligations.BitStoresChangeOneBit : Prop :=
  ∀ (s : State) (i : Instr) (nv : Option Bool) (dst : Loc8) (bit : Fin 8) (v r : Byte),
    s.Legal → BitStore i nv dst bit → dst.value s = .ok v →
    (∀ j : Fin 8, r.getLsbD j.val = if j = bit then nv.getD s.psw.cy else v.getLsbD j.val) → Writable8 s r dst →
    Completes i s (stored8 s r dst) (storedCpu8 s r dst) (readEvents8 s dst ++ writeEvents8 s r dst)

/-- MOV1 PSW.bit,CY, SET1 PSW.bit, CLR1 PSW.bit, EI, DI: only that bit of PSW changes (by the spec's decision D17, log
13, none where it is bit 5 or 3 on S1), and interrupts are held until after the next instruction; EI and DI are 71H 7AH
FAH and 71H 7BH FAH (47_bit.md R310, R311, R315, R316; 49_branch_skip_control.md R385, R387; 10_state.md R36). -/
def Obligations.PswBitStoresChangeOneFlagAndInhibit : Prop :=
  encode .ei = [0x71, 0x7A, 0xFA] ∧ encode .di = [0x71, 0x7B, 0xFA]
  ∧ ∀ (s : State) (i : Instr) (nv : Option Bool) (bit : Fin 8) (r : Byte),
    s.Legal → PswBitStore i nv bit →
    (∀ j : Fin 8, r.getLsbD j.val = if j = bit then nv.getD s.psw.cy else s.psw.toByte.getLsbD j.val) →
    CompletesInhibiting i s unchanged
      (fun q => if q = .psw then some (if s.cfg.core = .s1 then r &&& 0xD7 else r) else none) []

/-! ## Calls, returns, exceptions, the stack -/

/-- CALL and CALLT: the CALL frame holds 00H and the address of the next instruction, SP is 4 less, PC is the target:
CS[3:0]:rp, nextPC plus the displacement, 0H:addr16, addr20, or the word of the CALLT table (48_call_return_stack.md
R330-R332; 31_addressing.md R131-R134; D34; D20, log 18, log 25 for CALL $!addr20; log 42 for the CALLT table; log 34).
-/
def Obligations.CallsPushTheReturnAddress : Prop :=
  ∀ (s : State) (target : Addr), s.Legal → FrameUsable s →
    (∀ rp, target.toNat = 65536 * (s.cs.toNat % 16) + (s.pair rp).toNat →
      CompletesAt (.callRp rp) s target (frameCells s 0 s.pc) (onlySp (s.sp - 4)) [])
    ∧ (∀ disp : Word, target = relTarget s disp.toInt → BranchAllowed s disp.toInt →
      CompletesAt (.callRel16 disp) s target (frameCells s 0 s.pc) (onlySp (s.sp - 4)) [])
    ∧ (∀ w : Word, target.toNat = w.toNat →
      CompletesAt (.callAbs16 w) s target (frameCells s 0 s.pc) (onlySp (s.sp - 4)) [])
    ∧ CompletesAt (.callAbs20 target) s target (frameCells s 0 s.pc) (onlySp (s.sp - 4)) []
    ∧ (∀ k : Fin 32, target.toNat = (s.cell (0x80 + 2 * k.val)).toNat + 256 * (s.cell (0x81 + 2 * k.val)).toNat →
      CompletesAt (.callt k) s target (frameCells s 0 s.pc) (onlySp (s.sp - 4)) [])

/-- RET, D7H: PC from three bytes of the frame, bits 7-4 of the third ignored by the spec's decision D34 (log 34), SP 4
more, PSW and everything else as it was (48_call_return_stack.md R330, R333). -/
def Obligations.ReturnTakesPcFromTheFrame : Prop :=
  encode .ret = [0xD7] ∧ ∀ (s : State) (b0 b1 b2 : Byte) (target : Addr),
    s.Legal → stackRead s s.sp = .ok b0 → stackRead s (s.sp + 1) = .ok b1 → stackRead s (s.sp + 2) = .ok b2 →
    target.toNat = b0.toNat + 256 * b1.toNat + 65536 * (b2.toNat % 16) →
    CompletesAt .ret s target unchanged (onlySp (s.sp + 4)) []

/-- BRK: the frame holds PSW as it was and the address of the next instruction, SP is 4 less, IE is 0, PC is the word at
0007EH; ISP, RBS and the other flags are as they were, no window opens (48_call_return_stack.md R330, R338;
60_exceptions.md R412; D34). -/
def Obligations.BreakTakesTheSoftwareException : Prop :=
  ∀ (s : State) (target : Addr), s.Legal → s.inhibit = false → s.skip = false → FrameUsable s →
    target.toNat = (s.cell 0x7E).toNat + 256 * (s.cell 0x7F).toNat →
    CompletesAt .brk s target (frameCells s s.psw.toByte s.pc)
      (fun r => if r = .psw then some { s.psw with ie := false }.toByte else onlySp (s.sp - 4) r) []

/-- RETI and RETB: PC and the whole PSW from the frame, SP 4 more, interrupts held until after the next instruction; RETI
alone is reported to `Irq` (48_call_return_stack.md R330, R334, R335; 60_exceptions.md R410; D6, D17, D34). -/
def Obligations.ExceptionReturnsRestorePcAndPsw : Prop :=
  ∀ (s : State) (b0 b1 b2 b3 : Byte) (target : Addr) (i : Instr),
    s.Legal → stackRead s s.sp = .ok b0 → stackRead s (s.sp + 1) = .ok b1 → stackRead s (s.sp + 2) = .ok b2 →
    stackRead s (s.sp + 3) = .ok b3 → target.toNat = b0.toNat + 256 * b1.toNat + 65536 * (b2.toNat % 16) →
    (i = .reti ∨ i = .retb) →
    ∃ t, exec i s = .next t ∧ JumpsTo t target ∧ Inhibits s t
      ∧ Changes s t unchanged
          (fun r => if r = .psw then some (if s.cfg.core = .s1 then b3 &&& 0xD7 else b3) else onlySp (s.sp + 4) r)
          (if i = .reti then [.endOfService] else [])

/-- PUSH: the pair, or PSW above 00H, below SP, and SP 2 less (48_call_return_stack.md R330, R336). -/
def Obligations.PushStoresBelowSp : Prop :=
  ∀ s : State, s.Legal → StackUsable s.cfg (s.sp - 2) →
    (∀ rp, Completes (.pushRp rp) s (pushCells s (s.pair rp)) (onlySp (s.sp - 2)) [])
    ∧ Completes .pushPsw s (pushCells s (wordOf s.psw.toByte 0x00)) (onlySp (s.sp - 2)) []

/-- POP: the pair from the two bytes at SP, or PSW from the upper one, and SP 2 more; POP PSW holds interrupts until after
the next instruction, POP rp does not (48_call_return_stack.md R330, R337; 10_state.md R36; D17). -/
def Obligations.PopLoadsFromSp : Prop :=
  ∀ (s : State) (lo hi : Byte), s.Legal → stackRead s s.sp = .ok lo → stackRead s (s.sp + 1) = .ok hi →
    (∀ rp, Completes (.popRp rp) s (stored16 s (wordOf hi lo) (.pair rp)) (onlySp (s.sp + 2)) [])
    ∧ CompletesInhibiting .popPsw s unchanged
        (fun r => if r = .psw then some (if s.cfg.core = .s1 then hi &&& 0xD7 else hi) else onlySp (s.sp + 2) r) []

/-- ADDW SP,#byte and SUBW SP,#byte: SP plus or minus the unsigned byte modulo 65536, bit 0 made 0, no flag changes; and
their codes (48_call_return_stack.md R340, R341). -/
def Obligations.StackPointerArithmetic : Prop :=
  ∀ (s : State) (data : Byte) (v : Word), s.Legal →
    encode (.addwSpImm data) = [0x10, data] ∧ encode (.subwSpImm data) = [0x20, data]
    ∧ (v.toNat = (s.sp.toNat + data.toNat) % 65536 / 2 * 2 →
      Completes (.addwSpImm data) s unchanged (onlySp v) [])
    ∧ (v.toNat = (s.sp.toNat + 65536 - data.toNat) % 65536 / 2 * 2 →
      Completes (.subwSpImm data) s unchanged (onlySp v) [])

/-! ## Branches, skips, CPU control -/

/-- BR: PC is CS[3:0]:AX, nextPC plus the displacement modulo 2^20, 0H:addr16 or addr20; nothing else changes
(49_branch_skip_control.md R360, R362; 31_addressing.md R131, R132, R134; D20). -/
def Obligations.BranchGoesToTheTarget : Prop :=
  ∀ (s : State) (target : Addr), s.Legal →
    (target.toNat = 65536 * (s.cs.toNat % 16) + (s.pair .ax).toNat → CompletesAt .brAx s target unchanged unchanged [])
    ∧ (∀ d : Byte, target = relTarget s d.toInt → BranchAllowed s d.toInt →
      CompletesAt (.brRel8 d) s target unchanged unchanged [])
    ∧ (∀ d : Word, target = relTarget s d.toInt → BranchAllowed s d.toInt →
      CompletesAt (.brRel16 d) s target unchanged unchanged [])
    ∧ (∀ w : Word, target.toNat = w.toNat → CompletesAt (.brAbs16 w) s target unchanged unchanged [])
    ∧ CompletesAt (.brAbs20 target) s target unchanged unchanged []

/-- BC, BNC, BZ, BNZ, BH, BNH: taken when the condition on CY and Z holds, to nextPC plus the displacement, modulo 2^20
by the spec's decision D20 (log 18); else the next instruction follows; nothing else changes; and their codes
(31_addressing.md R131; 49_branch_skip_control.md R360, R363-R368). -/
def Obligations.ConditionalBranchesTestFlags : Prop :=
  (∀ d : Byte, encode (.bc d) = [0xDC, d] ∧ encode (.bnc d) = [0xDE, d] ∧ encode (.bz d) = [0xDD, d]
    ∧ encode (.bnz d) = [0xDF, d] ∧ encode (.bh d) = [0x61, 0xC3, d] ∧ encode (.bnh d) = [0x61, 0xD3, d])
  ∧ ∀ (s : State) (i : Instr) (c : Psw → Bool) (d : Byte), s.Legal → Branch i c d →
    (c s.psw = false → Completes i s unchanged unchanged [])
    ∧ (c s.psw = true → BranchAllowed s d.toInt →
      CompletesAt i s (relTarget s d.toInt) unchanged unchanged [])

/-- BT and BF: the byte is read once, and the branch is taken when the bit is 1 (BT) or 0 (BF); nothing else changes
(49_branch_skip_control.md R360, R369, R370; D20, log 18 for the target). -/
def Obligations.BitBranchesTestOneBit : Prop :=
  ∀ (s : State) (i : Instr) (want : Bool) (bit : Fin 8) (d : Byte), s.Legal →
    (∀ src v, BitBranch i want src bit d → src.value s = .ok v →
      (decide (v.toNat / 2 ^ bit.val % 2 = 1) ≠ want → Completes i s unchanged unchanged (readEvents8 s src))
      ∧ (decide (v.toNat / 2 ^ bit.val % 2 = 1) = want → BranchAllowed s d.toInt →
        CompletesAt i s (relTarget s d.toInt) unchanged unchanged (readEvents8 s src)))
    ∧ (PswBitBranch i want bit d →
      (decide (s.psw.toByte.toNat / 2 ^ bit.val % 2 = 1) ≠ want → Completes i s unchanged unchanged [])
      ∧ (decide (s.psw.toByte.toNat / 2 ^ bit.val % 2 = 1) = want → BranchAllowed s d.toInt →
        CompletesAt i s (relTarget s d.toInt) unchanged unchanged []))

/-- BTCLR: where the bit is 0 nothing is written; where it is 1 it is cleared and the branch is taken. On a PSW bit
interrupts are held until after the next instruction in both cases (49_branch_skip_control.md R360, R371, 10_state.md
R36; D20, log 18 for the target; D29; D18, log 13 and D31, log 12 where the byte is ES, CS, PMC or another CPU register
by address). -/
def Obligations.BitClearBranchesClearAndBranch : Prop :=
  ∀ (s : State) (bit : Fin 8) (d : Byte), s.Legal →
    (∀ i dst v r, BitClearBranch i dst bit d → dst.value s = .ok v →
      (v.getLsbD bit.val = false → Completes i s unchanged unchanged (readEvents8 s dst))
      ∧ (v.getLsbD bit.val = true →
        (∀ j : Fin 8, r.getLsbD j.val = if j = bit then false else v.getLsbD j.val) → Writable8 s r dst →
        BranchAllowed s d.toInt →
        CompletesAt i s (relTarget s d.toInt) (stored8 s r dst) (storedCpu8 s r dst)
          (readEvents8 s dst ++ writeEvents8 s r dst)))
    ∧ (s.psw.toByte.getLsbD bit.val = false → CompletesInhibiting (.btclrPswBit bit d) s unchanged unchanged [])
    ∧ (∀ r : Byte, s.psw.toByte.getLsbD bit.val = true →
        (∀ j : Fin 8, r.getLsbD j.val = if j = bit then false else s.psw.toByte.getLsbD j.val) →
        BranchAllowed s d.toInt →
        ∃ t, exec (.btclrPswBit bit d) s = .next t ∧ JumpsTo t (relTarget s d.toInt) ∧ Inhibits s t
          ∧ Changes s t unchanged (fun q => if q = .psw then some r else none) [])

/-- A taken relative branch or call from RAM to outside RAM is refused: BR, CALL $!addr20, the conditional branches, BT,
BF and BTCLR, on every operand they have (49_branch_skip_control.md R360, R361, R369-R371; D20; log 25). -/
def Obligations.RelativeBranchOutOfRamIsRefused : Prop :=
  ∀ (s : State) (d : Byte) (e : Word),
    (¬ BranchAllowed s e.toInt →
      exec (.brRel16 e) s = .refused .relativeBranchFromRam ∧ exec (.callRel16 e) s = .refused .relativeBranchFromRam)
    ∧ (¬ BranchAllowed s d.toInt →
      exec (.brRel8 d) s = .refused .relativeBranchFromRam
      ∧ (∀ i c, Branch i c d → c s.psw = true → exec i s = .refused .relativeBranchFromRam)
      ∧ (∀ i want src bit v, BitBranch i want src bit d → src.value s = .ok v →
        decide (v.toNat / 2 ^ bit.val % 2 = 1) = want → exec i s = .refused .relativeBranchFromRam)
      ∧ (∀ i want bit, PswBitBranch i want bit d → decide (s.psw.toByte.toNat / 2 ^ bit.val % 2 = 1) = want →
        exec i s = .refused .relativeBranchFromRam)
      ∧ (∀ i dst bit v r, s.Legal → BitClearBranch i dst bit d → dst.value s = .ok v → v.getLsbD bit.val = true →
        (∀ j : Fin 8, r.getLsbD j.val = if j = bit then false else v.getLsbD j.val) → Writable8 s r dst →
        exec i s = .refused .relativeBranchFromRam)
      ∧ (∀ bit : Fin 8, s.psw.toByte.getLsbD bit.val = true →
        exec (.btclrPswBit bit d) s = .refused .relativeBranchFromRam))

/-- SKC, SKNC, SKZ, SKNZ, SKH, SKNH: the next instruction is skipped iff the condition holds, interrupts are held until
after it, no flag changes; and their codes (49_branch_skip_control.md R375-R381, 10_state.md R36). -/
def Obligations.SkipsMarkTheNextInstruction : Prop :=
  (encode .skc = [0x61, 0xC8] ∧ encode .sknc = [0x61, 0xD8] ∧ encode .skz = [0x61, 0xE8] ∧ encode .sknz = [0x61, 0xF8]
    ∧ encode .skh = [0x61, 0xE3] ∧ encode .sknh = [0x61, 0xF3])
  ∧ ∀ (s : State) (i : Instr) (c : Psw → Bool), Skip i c →
    exec i s = .next { s with skip := c s.psw, inhibit := true }

/-- SEL RBn on S2 and S3: RBS1 and RBS0 are the bits of n, so bank n is used from the next instruction on; no flag changes,
no window opens; on S1 its codes decode to nothing (49_branch_skip_control.md R386). -/
def Obligations.SelectChangesTheBank : Prop :=
  (∀ n : BankNo, encode (.sel n) = [0x61, 0xCF + 0x10 * n.code])
    ∧ (∀ (n : BankNo) (rest : List Byte), decode .s1 (encode (.sel n) ++ rest) = .error .unassigned)
    ∧ ∀ (s : State) (n : BankNo), s.Legal → s.cfg.core ≠ .s1 →
      ∃ t, exec (.sel n) s = .next t ∧ t.rbs = n ∧ Follows s t ∧ Quiet s t
        ∧ Changes s t unchanged
            (onlyPsw { s.psw with rbs1 := n.code.getLsbD 1, rbs0 := n.code.getLsbD 0 }) []

/-- NOP does nothing, HALT and STOP only change the mode; and their codes (49_branch_skip_control.md R384, R389,
R390). -/
def Obligations.NopHaltStopChangeOnlyTheMode : Prop :=
  encode .nop = [0x00] ∧ encode .halt = [0x61, 0xED] ∧ encode .stop = [0x61, 0xFD]
  ∧ ∀ s : State, exec .nop s = .next s ∧ exec .halt s = .next { s with mode := .halt }
    ∧ exec .stop s = .next { s with mode := .stop }
end

