-- ==== Sys2Proof/Laws/Bits.lean ====
section
/-!
SUPPORT. Bytes of a word, bits of a byte, and PSW as a byte.
-/

namespace Sys2Proof.Machine

theorem wordOf_toNat (h l : Byte) : (wordOf h l).toNat = l.toNat + 256 * h.toNat := by
  simp only [wordOf, BitVec.toNat_append]
  rw [← Nat.shiftLeft_add_eq_or_of_lt l.isLt, Nat.shiftLeft_eq]
  omega

theorem lowByte_toNat (w : Word) : (lowByte w).toNat = w.toNat % 256 := by simp [lowByte]

theorem highByte_toNat (w : Word) : (highByte w).toNat = w.toNat / 256 := by
  have := w.isLt
  simp [highByte, Nat.shiftRight_eq_div_pow]; omega

@[simp] theorem lowByte_wordOf (h l : Byte) : lowByte (wordOf h l) = l := by
  apply BitVec.eq_of_toNat_eq
  have := l.isLt
  rw [lowByte_toNat, wordOf_toNat]; omega

@[simp] theorem highByte_wordOf (h l : Byte) : highByte (wordOf h l) = h := by
  apply BitVec.eq_of_toNat_eq
  have := l.isLt
  rw [highByte_toNat, wordOf_toNat]; omega

@[simp] theorem wordOf_highByte_lowByte (w : Word) : wordOf (highByte w) (lowByte w) = w := by
  apply BitVec.eq_of_toNat_eq
  rw [wordOf_toNat, highByte_toNat, lowByte_toNat]; omega

/-- A PSW bit of the byte is the PSW bit. -/
theorem Psw.toByte_getLsbD (p : Psw) (i : Fin 8) : p.toByte.getLsbD i.val = p.bit i := by
  obtain ⟨a, b, c, d, e, f, g, h⟩ := p
  cases a <;> cases b <;> cases c <;> cases d <;> cases e <;> cases f <;> cases g <;> cases h <;> revert i <;> decide

@[simp] theorem Psw.ofByte_toByte (p : Psw) : Psw.ofByte p.toByte = p := by
  obtain ⟨a, b, c, d, e, f, g, h⟩ := p
  cases a <;> cases b <;> cases c <;> cases d <;> cases e <;> cases f <;> cases g <;> cases h <;> rfl

theorem Psw.bit_ofByte (v : Byte) (i : Fin 8) : (Psw.ofByte v).bit i = v.getLsbD i.val := by
  fin_cases i <;> rfl

@[simp] theorem Psw.toByte_ofByte (v : Byte) : (Psw.ofByte v).toByte = v := by
  apply BitVec.eq_of_getLsbD_eq
  intro i hi
  rw [Psw.toByte_getLsbD (Psw.ofByte v) ⟨i, hi⟩, Psw.bit_ofByte]

theorem Psw.toByte_inj {p q : Psw} (h : p.toByte = q.toByte) : p = q := by
  rw [← Psw.ofByte_toByte p, ← Psw.ofByte_toByte q, h]

theorem Psw.bit_setBit (p : Psw) (i j : Fin 8) (v : Bool) : (p.setBit i v).bit j = if j = i then v else p.bit j := by
  fin_cases i <;> fin_cases j <;> rfl

/-- Bit `j` of a byte in which bit `i` was put. -/
theorem putBit_getLsbD (b : Byte) (i j : Fin 8) (v : Bool) :
    (putBit b i v).getLsbD j.val = if j = i then v else b.getLsbD j.val := by
  have hi := i.isLt
  have hj := j.isLt
  have e : decide (j = i) = decide (j.val = i.val) := by simp [Fin.ext_iff]
  unfold putBit bitMask
  cases v <;> by_cases h : j = i
  · subst h; simp
  · have : j.val ≠ i.val := fun e => h (Fin.ext e)
    simp [h]
    intro; omega
  · subst h; simp
  · have : j.val ≠ i.val := fun e => h (Fin.ext e)
    simp [h]
    intros; omega

/-- A byte known bit by bit to be `b` with bit `i` put to `v`. -/
theorem eq_putBit {b r : Byte} {i : Fin 8} {v : Bool}
    (h : ∀ j : Fin 8, r.getLsbD j.val = if j = i then v else b.getLsbD j.val) : r = putBit b i v := by
  apply BitVec.eq_of_getLsbD_eq
  intro j hj
  rw [h ⟨j, hj⟩, putBit_getLsbD b i ⟨j, hj⟩ v]

/-- Bit `i` by arithmetic. -/
theorem bitOf_eq (b : Byte) (i : Fin 8) : bitOf b i = decide (b.toNat / 2 ^ i.val % 2 = 1) := by
  simp only [bitOf, BitVec.getLsbD, Nat.testBit_eq_decide_div_mod_eq]

/-- PSW as S1 holds it, as a byte. -/
theorem Psw.toByte_onCore (core : CpuCore) (v : Byte) :
    ((Psw.ofByte v).onCore core).toByte = if core = .s1 then v &&& 0xD7 else v := by
  unfold Psw.onCore
  split
  · apply BitVec.eq_of_getLsbD_eq
    intro i hi
    rw [Psw.toByte_getLsbD _ ⟨i, hi⟩]
    interval_cases i <;> simp [Psw.bit, Psw.ofByte, bitOf]
  · simp

end Sys2Proof.Machine
end

