-- ==== Sys2Proof/Laws/Memory.lean ====
section
/-!
SUPPORT. Memory: a read finds what was written, every other address is as it was, and the canonical form is kept.
-/

namespace Sys2Proof.Machine

theorem Memory.above_iff (a : Nat) (m : Memory) : Memory.above a m = true ↔ ∀ c ∈ m, a < c.1 := by
  simp [Memory.above, List.all_eq_true]

theorem Memory.wf_cons_iff (a : Nat) (v : Byte) (m : Memory) :
    Memory.wf ((a, v) :: m) = true ↔ v ≠ unlistedByte a ∧ Memory.above a m = true ∧ Memory.wf m = true := by
  simp [Memory.wf, Bool.and_eq_true, and_assoc]

/-- An address at or below which nothing is listed reads as unlisted. -/
theorem Memory.read_above {m : Memory} {a b : Nat} (h : Memory.above a m = true) (hb : b ≤ a) :
    Memory.read m b = unlistedByte b := by
  induction m with
  | nil => rfl
  | cons c m ih =>
    obtain ⟨d, w⟩ := c
    rw [Memory.above_iff] at h
    have hd : a < d := h (d, w) (by simp)
    have : b ≠ d := by omega
    simp only [Memory.read, this, if_false]
    exact ih ((Memory.above_iff a m).2 fun c hc => h c (by simp [hc]))

theorem Memory.above_mono {m : Memory} {a b : Nat} (h : Memory.above a m = true) (hb : b ≤ a) :
    Memory.above b m = true := by
  rw [Memory.above_iff] at *
  exact fun c hc => lt_of_le_of_lt hb (h c hc)

theorem Memory.read_cons {m : Memory} {a : Nat} (v : Byte) (h : Memory.above a m = true) (b : Nat) :
    Memory.read (Memory.cons m a v) b = if b = a then v else Memory.read m b := by
  unfold Memory.cons
  split
  · rename_i hv
    split
    · rename_i hb
      rw [hb, Memory.read_above h le_rfl, hv]
    · rfl
  · rfl

theorem Memory.wf_cons {m : Memory} {a : Nat} (v : Byte) (h : Memory.above a m = true) (hm : Memory.wf m = true) :
    Memory.wf (Memory.cons m a v) = true := by
  unfold Memory.cons
  split
  · exact hm
  · rename_i hv
    exact (Memory.wf_cons_iff a v m).2 ⟨hv, h, hm⟩

theorem Memory.above_cons {m : Memory} {a b : Nat} (v : Byte) (h : Memory.above b m = true) (hb : b < a) :
    Memory.above b (Memory.cons m a v) = true := by
  unfold Memory.cons
  split
  · exact h
  · rw [Memory.above_iff] at *
    rintro c (_ | ⟨_, hc⟩)
    · exact hb
    · exact h c hc

/-- Reading after a write: the value at its address, every other address as it was. -/
theorem Memory.read_write {m : Memory} (hm : Memory.wf m = true) (a : Nat) (v : Byte) (b : Nat) :
    Memory.read (Memory.write m a v) b = if b = a then v else Memory.read m b := by
  induction m with
  | nil => exact Memory.read_cons v rfl b
  | cons c m ih =>
    obtain ⟨d, w⟩ := c
    obtain ⟨hw, hab, hwf⟩ := (Memory.wf_cons_iff d w m).1 hm
    unfold Memory.write
    split
    · rename_i had
      refine Memory.read_cons v ?_ b
      rw [Memory.above_iff] at *
      rintro c (_ | ⟨_, hc⟩)
      · exact had
      · exact lt_trans had (hab c hc)
    · split
      · rename_i _ had
        subst had
        rw [Memory.read_cons v hab b]
        simp only [Memory.read]
        split <;> rfl
      · rename_i _ had
        simp only [Memory.read, ih hwf]
        split
        · rename_i hb
          subst hb
          simp [Ne.symm had]
        · rfl

theorem Memory.above_write {m : Memory} {a b : Nat} (v : Byte) (h : Memory.above b m = true) (hb : b < a) :
    Memory.above b (Memory.write m a v) = true := by
  induction m with
  | nil => exact Memory.above_cons v h hb
  | cons c m ih =>
    obtain ⟨d, w⟩ := c
    have hm : Memory.above b m = true := by
      rw [Memory.above_iff] at *
      exact fun c hc => h c (by simp [hc])
    have hd : b < d := (Memory.above_iff _ _).1 h (d, w) (by simp)
    unfold Memory.write
    split
    · exact Memory.above_cons v h hb
    · split
      · exact Memory.above_cons v hm hb
      · rw [Memory.above_iff] at *
        rintro c (_ | ⟨_, hc⟩)
        · exact hd
        · exact (Memory.above_iff _ _).1 (ih hm) c hc

/-- A write keeps the canonical form. -/
theorem Memory.wf_write {m : Memory} (hm : Memory.wf m = true) (a : Nat) (v : Byte) :
    Memory.wf (Memory.write m a v) = true := by
  induction m with
  | nil => exact Memory.wf_cons v rfl hm
  | cons c m ih =>
    obtain ⟨d, w⟩ := c
    obtain ⟨hw, hab, hwf⟩ := (Memory.wf_cons_iff d w m).1 hm
    unfold Memory.write
    split
    · rename_i had
      refine Memory.wf_cons v ?_ hm
      rw [Memory.above_iff] at *
      rintro c (_ | ⟨_, hc⟩)
      · exact had
      · exact lt_trans had (hab c hc)
    · split
      · rename_i _ had
        subst had
        exact Memory.wf_cons v hab hwf
      · rename_i h1 h2
        exact (Memory.wf_cons_iff d w _).2 ⟨hw, Memory.above_write v hab (by omega), ih hwf⟩

/-- Storing a list of bytes keeps the canonical form. -/
theorem storeBytes_wf {m : Memory} (hm : Memory.wf m = true) (a : Nat) (l : List Byte) :
    Memory.wf (storeBytes m a l) = true := by
  induction l generalizing m a with
  | nil => exact hm
  | cons b l ih => exact ih (Memory.wf_write hm a b) (a + 1)

/-- The reset signal's memory keeps the canonical form. -/
theorem resetMemory_wf (c : Config) (cells : List Host.Cell) {m : Memory} (hm : Memory.wf m = true) :
    Memory.wf (resetMemory c cells m) = true := by
  unfold resetMemory
  induction cells generalizing m with
  | nil => exact hm
  | cons d l ih =>
    simp only [List.foldl_cons]
    apply ih
    split
    · exact Memory.wf_write hm _ _
    · exact hm

/-- The reset signal's memory has every byte outside internal RAM as it was. -/
theorem resetMemory_read (c : Config) (cells : List Host.Cell) {m : Memory} (hm : Memory.wf m = true) {a : Nat}
    (ha : inRam c a = false) : Memory.read (resetMemory c cells m) a = Memory.read m a := by
  unfold resetMemory
  induction cells generalizing m with
  | nil => rfl
  | cons d l ih =>
    simp only [List.foldl_cons]
    split
    · rename_i hd
      rw [ih (Memory.wf_write hm _ _), Memory.read_write hm]
      split
      · rename_i e
        subst e
        rw [ha] at hd
        cases hd
      · rfl
    · exact ih hm

/-- An address nothing is listed for reads as unlisted. -/
theorem Memory.read_unlisted {m : Memory} {a : Nat} (h : ∀ c ∈ m, c.1 ≠ a) : Memory.read m a = unlistedByte a := by
  induction m with
  | nil => rfl
  | cons c m ih =>
    have hc : a ≠ c.1 := (h c (by simp)).symm
    simp only [Memory.read, hc, if_false]
    exact ih fun d hd => h d (by simp [hd])

/-- Catching up keeps the canonical form. -/
theorem catchUp_wf (sees : Nat → Bool) (m : Memory) (cells : List Host.Cell) {q : Memory} (hq : Memory.wf q = true) :
    Memory.wf (catchUp sees m cells q) = true := by
  induction cells generalizing q with
  | nil => exact hq
  | cons c l ih =>
    unfold catchUp
    apply ih
    split
    · exact hq
    · split
      · exact Memory.wf_write hq _ _
      · exact hq

/-- Catching up shows a listed byte as it is where `sees` says so, and every other byte as it was seen. -/
theorem catchUp_read (sees : Nat → Bool) (m : Memory) (cells : List Host.Cell) {q : Memory} (hq : Memory.wf q = true)
    (a : Nat) :
    Memory.read (catchUp sees m cells q) a
      = if (∃ c ∈ cells, c.1 = a) ∧ sees a = true then Memory.read m a else Memory.read q a := by
  induction cells generalizing q with
  | nil => simp [catchUp]
  | cons c l ih =>
    unfold catchUp
    by_cases hc : c.1 = a
    · subst hc
      split
      · rename_i he
        rw [ih hq]
        split <;> simp_all
      · split
        · rename_i hs
          rw [ih (Memory.wf_write hq _ _), Memory.read_write hq]
          simp [hs]
        · rename_i hs
          rw [ih hq]
          simp [hs]
    · have hr : Memory.read (if m.read c.1 = q.read c.1 then q
          else if sees c.1 then q.write c.1 (m.read c.1) else q) a = Memory.read q a := by
        split
        · rfl
        · split
          · rw [Memory.read_write hq, if_neg (Ne.symm hc)]
          · rfl
      have hw : Memory.wf (if m.read c.1 = q.read c.1 then q
          else if sees c.1 then q.write c.1 (m.read c.1) else q) = true := by
        split
        · exact hq
        · split
          · exact Memory.wf_write hq _ _
          · exact hq
      rw [ih hw, hr]
      simp [hc]

/-- The next fetch view is in canonical form. -/
theorem nextFetchView_wf {s : State} (hq : s.queue.wf = true) : (nextFetchView s).wf = true :=
  catchUp_wf _ _ _ hq

/-- The next fetch view has each byte as it is or as fetch saw it, by that byte's own free bit (R75). -/
theorem nextFetchView_read {s : State} (hq : s.queue.wf = true) (a : Nat) :
    (nextFetchView s).read a
      = if Config.freeBit (s.draws + 1) (.staleFetch a) = true then s.mem.read a else s.queue.read a := by
  unfold nextFetchView
  rw [catchUp_read _ _ _ hq]
  by_cases h : ∃ c ∈ s.mem ++ s.queue, c.1 = a
  · simp only [h, true_and]
  · have hm : s.mem.read a = unlistedByte a :=
      Memory.read_unlisted fun c hc e => h ⟨c, List.mem_append.2 (.inl hc), e⟩
    have hu : s.queue.read a = unlistedByte a :=
      Memory.read_unlisted fun c hc e => h ⟨c, List.mem_append.2 (.inr hc), e⟩
    simp [hm, hu]

/-- Right after a control transfer fetch sees memory as it is, and goes on doing so at the next step (R75). -/
theorem nextFetchView_jump {s : State} (hm : s.mem.wf = true) (target : Addr) (a : Nat) :
    (nextFetchView (jump s target)).read a = s.mem.read a := by
  rw [nextFetchView_read (s := jump s target) hm]
  split <;> rfl

/-- The memory after reset is in canonical form. -/
theorem State.reset_mem_wf : State.reset.mem.wf = true := rfl

end Sys2Proof.Machine
end

