-- ==== Sys2Proof/Laws/State.lean ====
section
/-!
SUPPORT. One lemma per field per update of State: what each named update leaves, so that no proof unfolds a record update.
-/

namespace Sys2Proof.Machine

section

variable (s : State)

/-! `State.withBank` -/

@[simp] theorem State.withBank_cfg (n : BankNo) (k : Bank) : (s.withBank n k).cfg = s.cfg := by cases n <;> rfl
@[simp] theorem State.withBank_pc (n : BankNo) (k : Bank) : (s.withBank n k).pc = s.pc := by cases n <;> rfl
@[simp] theorem State.withBank_psw (n : BankNo) (k : Bank) : (s.withBank n k).psw = s.psw := by cases n <;> rfl
@[simp] theorem State.withBank_sp (n : BankNo) (k : Bank) : (s.withBank n k).sp = s.sp := by cases n <;> rfl
@[simp] theorem State.withBank_es (n : BankNo) (k : Bank) : (s.withBank n k).es = s.es := by cases n <;> rfl
@[simp] theorem State.withBank_cs (n : BankNo) (k : Bank) : (s.withBank n k).cs = s.cs := by cases n <;> rfl
@[simp] theorem State.withBank_pmc (n : BankNo) (k : Bank) : (s.withBank n k).pmc = s.pmc := by cases n <;> rfl
@[simp] theorem State.withBank_macr (n : BankNo) (k : Bank) : (s.withBank n k).macr = s.macr := by cases n <;> rfl
@[simp] theorem State.withBank_mem (n : BankNo) (k : Bank) : (s.withBank n k).mem = s.mem := by cases n <;> rfl
@[simp] theorem State.withBank_queue (n : BankNo) (k : Bank) : (s.withBank n k).queue = s.queue := by cases n <;> rfl
@[simp] theorem State.withBank_inhibit (n : BankNo) (k : Bank) : (s.withBank n k).inhibit = s.inhibit :=
  by cases n <;> rfl
@[simp] theorem State.withBank_skip (n : BankNo) (k : Bank) : (s.withBank n k).skip = s.skip := by cases n <;> rfl
@[simp] theorem State.withBank_mode (n : BankNo) (k : Bank) : (s.withBank n k).mode = s.mode := by cases n <;> rfl
@[simp] theorem State.withBank_pmcDelay (n : BankNo) (k : Bank) : (s.withBank n k).pmcDelay = s.pmcDelay :=
  by cases n <;> rfl
@[simp] theorem State.withBank_divHazard (n : BankNo) (k : Bank) : (s.withBank n k).divHazard = s.divHazard :=
  by cases n <;> rfl
@[simp] theorem State.withBank_devLog (n : BankNo) (k : Bank) : (s.withBank n k).devLog = s.devLog :=
  by cases n <;> rfl
@[simp] theorem State.withBank_irq (n : BankNo) (k : Bank) : (s.withBank n k).irq = s.irq := by cases n <;> rfl
@[simp] theorem State.withBank_draws (n : BankNo) (k : Bank) : (s.withBank n k).draws = s.draws := by cases n <;> rfl

/-! `State.setReg` -/

@[simp] theorem State.setReg_cfg (r : Reg) (v : Byte) : (s.setReg r v).cfg = s.cfg := by simp [State.setReg]
@[simp] theorem State.setReg_pc (r : Reg) (v : Byte) : (s.setReg r v).pc = s.pc := by simp [State.setReg]
@[simp] theorem State.setReg_psw (r : Reg) (v : Byte) : (s.setReg r v).psw = s.psw := by simp [State.setReg]
@[simp] theorem State.setReg_sp (r : Reg) (v : Byte) : (s.setReg r v).sp = s.sp := by simp [State.setReg]
@[simp] theorem State.setReg_es (r : Reg) (v : Byte) : (s.setReg r v).es = s.es := by simp [State.setReg]
@[simp] theorem State.setReg_cs (r : Reg) (v : Byte) : (s.setReg r v).cs = s.cs := by simp [State.setReg]
@[simp] theorem State.setReg_pmc (r : Reg) (v : Byte) : (s.setReg r v).pmc = s.pmc := by simp [State.setReg]
@[simp] theorem State.setReg_macr (r : Reg) (v : Byte) : (s.setReg r v).macr = s.macr := by simp [State.setReg]
@[simp] theorem State.setReg_mem (r : Reg) (v : Byte) : (s.setReg r v).mem = s.mem := by simp [State.setReg]
@[simp] theorem State.setReg_queue (r : Reg) (v : Byte) : (s.setReg r v).queue = s.queue := by simp [State.setReg]
@[simp] theorem State.setReg_inhibit (r : Reg) (v : Byte) : (s.setReg r v).inhibit = s.inhibit :=
  by simp [State.setReg]
@[simp] theorem State.setReg_skip (r : Reg) (v : Byte) : (s.setReg r v).skip = s.skip := by simp [State.setReg]
@[simp] theorem State.setReg_mode (r : Reg) (v : Byte) : (s.setReg r v).mode = s.mode := by simp [State.setReg]
@[simp] theorem State.setReg_pmcDelay (r : Reg) (v : Byte) : (s.setReg r v).pmcDelay = s.pmcDelay :=
  by simp [State.setReg]
@[simp] theorem State.setReg_divHazard (r : Reg) (v : Byte) : (s.setReg r v).divHazard = s.divHazard :=
  by simp [State.setReg]
@[simp] theorem State.setReg_devLog (r : Reg) (v : Byte) : (s.setReg r v).devLog = s.devLog := by simp [State.setReg]
@[simp] theorem State.setReg_irq (r : Reg) (v : Byte) : (s.setReg r v).irq = s.irq := by simp [State.setReg]
@[simp] theorem State.setReg_draws (r : Reg) (v : Byte) : (s.setReg r v).draws = s.draws := by simp [State.setReg]

/-! `State.setPair` -/

@[simp] theorem State.setPair_cfg (p : RegPair) (v : Word) : (s.setPair p v).cfg = s.cfg := by simp [State.setPair]
@[simp] theorem State.setPair_pc (p : RegPair) (v : Word) : (s.setPair p v).pc = s.pc := by simp [State.setPair]
@[simp] theorem State.setPair_psw (p : RegPair) (v : Word) : (s.setPair p v).psw = s.psw := by simp [State.setPair]
@[simp] theorem State.setPair_sp (p : RegPair) (v : Word) : (s.setPair p v).sp = s.sp := by simp [State.setPair]
@[simp] theorem State.setPair_es (p : RegPair) (v : Word) : (s.setPair p v).es = s.es := by simp [State.setPair]
@[simp] theorem State.setPair_cs (p : RegPair) (v : Word) : (s.setPair p v).cs = s.cs := by simp [State.setPair]
@[simp] theorem State.setPair_pmc (p : RegPair) (v : Word) : (s.setPair p v).pmc = s.pmc := by simp [State.setPair]
@[simp] theorem State.setPair_macr (p : RegPair) (v : Word) : (s.setPair p v).macr = s.macr := by simp [State.setPair]
@[simp] theorem State.setPair_mem (p : RegPair) (v : Word) : (s.setPair p v).mem = s.mem := by simp [State.setPair]
@[simp] theorem State.setPair_queue (p : RegPair) (v : Word) : (s.setPair p v).queue = s.queue :=
  by simp [State.setPair]
@[simp] theorem State.setPair_inhibit (p : RegPair) (v : Word) : (s.setPair p v).inhibit = s.inhibit :=
  by simp [State.setPair]
@[simp] theorem State.setPair_skip (p : RegPair) (v : Word) : (s.setPair p v).skip = s.skip := by simp [State.setPair]
@[simp] theorem State.setPair_mode (p : RegPair) (v : Word) : (s.setPair p v).mode = s.mode := by simp [State.setPair]
@[simp] theorem State.setPair_pmcDelay (p : RegPair) (v : Word) : (s.setPair p v).pmcDelay = s.pmcDelay :=
  by simp [State.setPair]
@[simp] theorem State.setPair_divHazard (p : RegPair) (v : Word) : (s.setPair p v).divHazard = s.divHazard :=
  by simp [State.setPair]
@[simp] theorem State.setPair_devLog (p : RegPair) (v : Word) : (s.setPair p v).devLog = s.devLog :=
  by simp [State.setPair]
@[simp] theorem State.setPair_irq (p : RegPair) (v : Word) : (s.setPair p v).irq = s.irq := by simp [State.setPair]
@[simp] theorem State.setPair_draws (p : RegPair) (v : Word) : (s.setPair p v).draws = s.draws :=
  by simp [State.setPair]

/-! `State.setPairs` -/

@[simp] theorem State.setPairs_cfg (p q : RegPair) (v : DWord) : (s.setPairs p q v).cfg = s.cfg :=
  by simp [State.setPairs]
@[simp] theorem State.setPairs_pc (p q : RegPair) (v : DWord) : (s.setPairs p q v).pc = s.pc :=
  by simp [State.setPairs]
@[simp] theorem State.setPairs_psw (p q : RegPair) (v : DWord) : (s.setPairs p q v).psw = s.psw :=
  by simp [State.setPairs]
@[simp] theorem State.setPairs_sp (p q : RegPair) (v : DWord) : (s.setPairs p q v).sp = s.sp :=
  by simp [State.setPairs]
@[simp] theorem State.setPairs_es (p q : RegPair) (v : DWord) : (s.setPairs p q v).es = s.es :=
  by simp [State.setPairs]
@[simp] theorem State.setPairs_cs (p q : RegPair) (v : DWord) : (s.setPairs p q v).cs = s.cs :=
  by simp [State.setPairs]
@[simp] theorem State.setPairs_pmc (p q : RegPair) (v : DWord) : (s.setPairs p q v).pmc = s.pmc :=
  by simp [State.setPairs]
@[simp] theorem State.setPairs_macr (p q : RegPair) (v : DWord) : (s.setPairs p q v).macr = s.macr :=
  by simp [State.setPairs]
@[simp] theorem State.setPairs_mem (p q : RegPair) (v : DWord) : (s.setPairs p q v).mem = s.mem :=
  by simp [State.setPairs]
@[simp] theorem State.setPairs_queue (p q : RegPair) (v : DWord) : (s.setPairs p q v).queue = s.queue :=
  by simp [State.setPairs]
@[simp] theorem State.setPairs_inhibit (p q : RegPair) (v : DWord) : (s.setPairs p q v).inhibit = s.inhibit :=
  by simp [State.setPairs]
@[simp] theorem State.setPairs_skip (p q : RegPair) (v : DWord) : (s.setPairs p q v).skip = s.skip :=
  by simp [State.setPairs]
@[simp] theorem State.setPairs_mode (p q : RegPair) (v : DWord) : (s.setPairs p q v).mode = s.mode :=
  by simp [State.setPairs]
@[simp] theorem State.setPairs_pmcDelay (p q : RegPair) (v : DWord) : (s.setPairs p q v).pmcDelay = s.pmcDelay :=
  by simp [State.setPairs]
@[simp] theorem State.setPairs_divHazard (p q : RegPair) (v : DWord) : (s.setPairs p q v).divHazard = s.divHazard :=
  by simp [State.setPairs]
@[simp] theorem State.setPairs_devLog (p q : RegPair) (v : DWord) : (s.setPairs p q v).devLog = s.devLog :=
  by simp [State.setPairs]
@[simp] theorem State.setPairs_irq (p q : RegPair) (v : DWord) : (s.setPairs p q v).irq = s.irq :=
  by simp [State.setPairs]
@[simp] theorem State.setPairs_draws (p q : RegPair) (v : DWord) : (s.setPairs p q v).draws = s.draws :=
  by simp [State.setPairs]

/-! `State.writePsw` -/

@[simp] theorem State.writePsw_cfg (v : Byte) : (s.writePsw v).cfg = s.cfg := rfl
@[simp] theorem State.writePsw_pc (v : Byte) : (s.writePsw v).pc = s.pc := rfl
@[simp] theorem State.writePsw_psw (v : Byte) : (s.writePsw v).psw = (Psw.ofByte v).onCore s.cfg.core := rfl
@[simp] theorem State.writePsw_sp (v : Byte) : (s.writePsw v).sp = s.sp := rfl
@[simp] theorem State.writePsw_es (v : Byte) : (s.writePsw v).es = s.es := rfl
@[simp] theorem State.writePsw_cs (v : Byte) : (s.writePsw v).cs = s.cs := rfl
@[simp] theorem State.writePsw_pmc (v : Byte) : (s.writePsw v).pmc = s.pmc := rfl
@[simp] theorem State.writePsw_macr (v : Byte) : (s.writePsw v).macr = s.macr := rfl
@[simp] theorem State.writePsw_bank0 (v : Byte) : (s.writePsw v).bank0 = s.bank0 := rfl
@[simp] theorem State.writePsw_bank1 (v : Byte) : (s.writePsw v).bank1 = s.bank1 := rfl
@[simp] theorem State.writePsw_bank2 (v : Byte) : (s.writePsw v).bank2 = s.bank2 := rfl
@[simp] theorem State.writePsw_bank3 (v : Byte) : (s.writePsw v).bank3 = s.bank3 := rfl
@[simp] theorem State.writePsw_mem (v : Byte) : (s.writePsw v).mem = s.mem := rfl
@[simp] theorem State.writePsw_queue (v : Byte) : (s.writePsw v).queue = s.queue := rfl
@[simp] theorem State.writePsw_inhibit (v : Byte) : (s.writePsw v).inhibit = s.inhibit := rfl
@[simp] theorem State.writePsw_skip (v : Byte) : (s.writePsw v).skip = s.skip := rfl
@[simp] theorem State.writePsw_mode (v : Byte) : (s.writePsw v).mode = s.mode := rfl
@[simp] theorem State.writePsw_pmcDelay (v : Byte) : (s.writePsw v).pmcDelay = s.pmcDelay := rfl
@[simp] theorem State.writePsw_divHazard (v : Byte) : (s.writePsw v).divHazard = s.divHazard := rfl
@[simp] theorem State.writePsw_devLog (v : Byte) : (s.writePsw v).devLog = s.devLog := rfl
@[simp] theorem State.writePsw_irq (v : Byte) : (s.writePsw v).irq = s.irq := rfl
@[simp] theorem State.writePsw_draws (v : Byte) : (s.writePsw v).draws = s.draws := rfl

/-! `State.writePswBit` -/

@[simp] theorem State.writePswBit_cfg (i : Fin 8) (v : Bool) : (s.writePswBit i v).cfg = s.cfg := rfl
@[simp] theorem State.writePswBit_pc (i : Fin 8) (v : Bool) : (s.writePswBit i v).pc = s.pc := rfl
@[simp] theorem State.writePswBit_psw (i : Fin 8) (v : Bool) : (s.writePswBit i v).psw = (s.psw.setBit i v).onCore s.cfg.core :=
  rfl
@[simp] theorem State.writePswBit_sp (i : Fin 8) (v : Bool) : (s.writePswBit i v).sp = s.sp := rfl
@[simp] theorem State.writePswBit_es (i : Fin 8) (v : Bool) : (s.writePswBit i v).es = s.es := rfl
@[simp] theorem State.writePswBit_cs (i : Fin 8) (v : Bool) : (s.writePswBit i v).cs = s.cs := rfl
@[simp] theorem State.writePswBit_pmc (i : Fin 8) (v : Bool) : (s.writePswBit i v).pmc = s.pmc := rfl
@[simp] theorem State.writePswBit_macr (i : Fin 8) (v : Bool) : (s.writePswBit i v).macr = s.macr := rfl
@[simp] theorem State.writePswBit_bank0 (i : Fin 8) (v : Bool) : (s.writePswBit i v).bank0 = s.bank0 := rfl
@[simp] theorem State.writePswBit_bank1 (i : Fin 8) (v : Bool) : (s.writePswBit i v).bank1 = s.bank1 := rfl
@[simp] theorem State.writePswBit_bank2 (i : Fin 8) (v : Bool) : (s.writePswBit i v).bank2 = s.bank2 := rfl
@[simp] theorem State.writePswBit_bank3 (i : Fin 8) (v : Bool) : (s.writePswBit i v).bank3 = s.bank3 := rfl
@[simp] theorem State.writePswBit_mem (i : Fin 8) (v : Bool) : (s.writePswBit i v).mem = s.mem := rfl
@[simp] theorem State.writePswBit_queue (i : Fin 8) (v : Bool) : (s.writePswBit i v).queue = s.queue := rfl
@[simp] theorem State.writePswBit_inhibit (i : Fin 8) (v : Bool) : (s.writePswBit i v).inhibit = s.inhibit := rfl
@[simp] theorem State.writePswBit_skip (i : Fin 8) (v : Bool) : (s.writePswBit i v).skip = s.skip := rfl
@[simp] theorem State.writePswBit_mode (i : Fin 8) (v : Bool) : (s.writePswBit i v).mode = s.mode := rfl
@[simp] theorem State.writePswBit_pmcDelay (i : Fin 8) (v : Bool) : (s.writePswBit i v).pmcDelay = s.pmcDelay := rfl
@[simp] theorem State.writePswBit_divHazard (i : Fin 8) (v : Bool) : (s.writePswBit i v).divHazard = s.divHazard :=
  rfl
@[simp] theorem State.writePswBit_devLog (i : Fin 8) (v : Bool) : (s.writePswBit i v).devLog = s.devLog := rfl
@[simp] theorem State.writePswBit_irq (i : Fin 8) (v : Bool) : (s.writePswBit i v).irq = s.irq := rfl
@[simp] theorem State.writePswBit_draws (i : Fin 8) (v : Bool) : (s.writePswBit i v).draws = s.draws := rfl

/-! `State.setSp` -/

@[simp] theorem State.setSp_cfg (v : Word) : (s.setSp v).cfg = s.cfg := rfl
@[simp] theorem State.setSp_pc (v : Word) : (s.setSp v).pc = s.pc := rfl
@[simp] theorem State.setSp_psw (v : Word) : (s.setSp v).psw = s.psw := rfl
@[simp] theorem State.setSp_sp (v : Word) : (s.setSp v).sp = v &&& 0xFFFE := rfl
@[simp] theorem State.setSp_es (v : Word) : (s.setSp v).es = s.es := rfl
@[simp] theorem State.setSp_cs (v : Word) : (s.setSp v).cs = s.cs := rfl
@[simp] theorem State.setSp_pmc (v : Word) : (s.setSp v).pmc = s.pmc := rfl
@[simp] theorem State.setSp_macr (v : Word) : (s.setSp v).macr = s.macr := rfl
@[simp] theorem State.setSp_bank0 (v : Word) : (s.setSp v).bank0 = s.bank0 := rfl
@[simp] theorem State.setSp_bank1 (v : Word) : (s.setSp v).bank1 = s.bank1 := rfl
@[simp] theorem State.setSp_bank2 (v : Word) : (s.setSp v).bank2 = s.bank2 := rfl
@[simp] theorem State.setSp_bank3 (v : Word) : (s.setSp v).bank3 = s.bank3 := rfl
@[simp] theorem State.setSp_mem (v : Word) : (s.setSp v).mem = s.mem := rfl
@[simp] theorem State.setSp_queue (v : Word) : (s.setSp v).queue = s.queue := rfl
@[simp] theorem State.setSp_inhibit (v : Word) : (s.setSp v).inhibit = s.inhibit := rfl
@[simp] theorem State.setSp_skip (v : Word) : (s.setSp v).skip = s.skip := rfl
@[simp] theorem State.setSp_mode (v : Word) : (s.setSp v).mode = s.mode := rfl
@[simp] theorem State.setSp_pmcDelay (v : Word) : (s.setSp v).pmcDelay = s.pmcDelay := rfl
@[simp] theorem State.setSp_divHazard (v : Word) : (s.setSp v).divHazard = s.divHazard := rfl
@[simp] theorem State.setSp_devLog (v : Word) : (s.setSp v).devLog = s.devLog := rfl
@[simp] theorem State.setSp_irq (v : Word) : (s.setSp v).irq = s.irq := rfl
@[simp] theorem State.setSp_draws (v : Word) : (s.setSp v).draws = s.draws := rfl

/-! `State.writeEs` -/

@[simp] theorem State.writeEs_cfg (v : Byte) : (s.writeEs v).cfg = s.cfg := rfl
@[simp] theorem State.writeEs_pc (v : Byte) : (s.writeEs v).pc = s.pc := rfl
@[simp] theorem State.writeEs_psw (v : Byte) : (s.writeEs v).psw = s.psw := rfl
@[simp] theorem State.writeEs_sp (v : Byte) : (s.writeEs v).sp = s.sp := rfl
@[simp] theorem State.writeEs_es (v : Byte) : (s.writeEs v).es = v &&& 0x0F := rfl
@[simp] theorem State.writeEs_cs (v : Byte) : (s.writeEs v).cs = s.cs := rfl
@[simp] theorem State.writeEs_pmc (v : Byte) : (s.writeEs v).pmc = s.pmc := rfl
@[simp] theorem State.writeEs_macr (v : Byte) : (s.writeEs v).macr = s.macr := rfl
@[simp] theorem State.writeEs_bank0 (v : Byte) : (s.writeEs v).bank0 = s.bank0 := rfl
@[simp] theorem State.writeEs_bank1 (v : Byte) : (s.writeEs v).bank1 = s.bank1 := rfl
@[simp] theorem State.writeEs_bank2 (v : Byte) : (s.writeEs v).bank2 = s.bank2 := rfl
@[simp] theorem State.writeEs_bank3 (v : Byte) : (s.writeEs v).bank3 = s.bank3 := rfl
@[simp] theorem State.writeEs_mem (v : Byte) : (s.writeEs v).mem = s.mem := rfl
@[simp] theorem State.writeEs_queue (v : Byte) : (s.writeEs v).queue = s.queue := rfl
@[simp] theorem State.writeEs_inhibit (v : Byte) : (s.writeEs v).inhibit = s.inhibit := rfl
@[simp] theorem State.writeEs_skip (v : Byte) : (s.writeEs v).skip = s.skip := rfl
@[simp] theorem State.writeEs_mode (v : Byte) : (s.writeEs v).mode = s.mode := rfl
@[simp] theorem State.writeEs_pmcDelay (v : Byte) : (s.writeEs v).pmcDelay = s.pmcDelay := rfl
@[simp] theorem State.writeEs_divHazard (v : Byte) : (s.writeEs v).divHazard = s.divHazard := rfl
@[simp] theorem State.writeEs_devLog (v : Byte) : (s.writeEs v).devLog = s.devLog := rfl
@[simp] theorem State.writeEs_irq (v : Byte) : (s.writeEs v).irq = s.irq := rfl
@[simp] theorem State.writeEs_draws (v : Byte) : (s.writeEs v).draws = s.draws := rfl

/-! `State.writeCs` -/

@[simp] theorem State.writeCs_cfg (v : Byte) : (s.writeCs v).cfg = s.cfg := rfl
@[simp] theorem State.writeCs_pc (v : Byte) : (s.writeCs v).pc = s.pc := rfl
@[simp] theorem State.writeCs_psw (v : Byte) : (s.writeCs v).psw = s.psw := rfl
@[simp] theorem State.writeCs_sp (v : Byte) : (s.writeCs v).sp = s.sp := rfl
@[simp] theorem State.writeCs_es (v : Byte) : (s.writeCs v).es = s.es := rfl
@[simp] theorem State.writeCs_cs (v : Byte) : (s.writeCs v).cs = v &&& 0x0F := rfl
@[simp] theorem State.writeCs_pmc (v : Byte) : (s.writeCs v).pmc = s.pmc := rfl
@[simp] theorem State.writeCs_macr (v : Byte) : (s.writeCs v).macr = s.macr := rfl
@[simp] theorem State.writeCs_bank0 (v : Byte) : (s.writeCs v).bank0 = s.bank0 := rfl
@[simp] theorem State.writeCs_bank1 (v : Byte) : (s.writeCs v).bank1 = s.bank1 := rfl
@[simp] theorem State.writeCs_bank2 (v : Byte) : (s.writeCs v).bank2 = s.bank2 := rfl
@[simp] theorem State.writeCs_bank3 (v : Byte) : (s.writeCs v).bank3 = s.bank3 := rfl
@[simp] theorem State.writeCs_mem (v : Byte) : (s.writeCs v).mem = s.mem := rfl
@[simp] theorem State.writeCs_queue (v : Byte) : (s.writeCs v).queue = s.queue := rfl
@[simp] theorem State.writeCs_inhibit (v : Byte) : (s.writeCs v).inhibit = s.inhibit := rfl
@[simp] theorem State.writeCs_skip (v : Byte) : (s.writeCs v).skip = s.skip := rfl
@[simp] theorem State.writeCs_mode (v : Byte) : (s.writeCs v).mode = s.mode := rfl
@[simp] theorem State.writeCs_pmcDelay (v : Byte) : (s.writeCs v).pmcDelay = s.pmcDelay := rfl
@[simp] theorem State.writeCs_divHazard (v : Byte) : (s.writeCs v).divHazard = s.divHazard := rfl
@[simp] theorem State.writeCs_devLog (v : Byte) : (s.writeCs v).devLog = s.devLog := rfl
@[simp] theorem State.writeCs_irq (v : Byte) : (s.writeCs v).irq = s.irq := rfl
@[simp] theorem State.writeCs_draws (v : Byte) : (s.writeCs v).draws = s.draws := rfl

/-! `State.log` -/

@[simp] theorem State.log_cfg (e : DevEvent) : (s.log e).cfg = s.cfg := rfl
@[simp] theorem State.log_pc (e : DevEvent) : (s.log e).pc = s.pc := rfl
@[simp] theorem State.log_psw (e : DevEvent) : (s.log e).psw = s.psw := rfl
@[simp] theorem State.log_sp (e : DevEvent) : (s.log e).sp = s.sp := rfl
@[simp] theorem State.log_es (e : DevEvent) : (s.log e).es = s.es := rfl
@[simp] theorem State.log_cs (e : DevEvent) : (s.log e).cs = s.cs := rfl
@[simp] theorem State.log_pmc (e : DevEvent) : (s.log e).pmc = s.pmc := rfl
@[simp] theorem State.log_macr (e : DevEvent) : (s.log e).macr = s.macr := rfl
@[simp] theorem State.log_bank0 (e : DevEvent) : (s.log e).bank0 = s.bank0 := rfl
@[simp] theorem State.log_bank1 (e : DevEvent) : (s.log e).bank1 = s.bank1 := rfl
@[simp] theorem State.log_bank2 (e : DevEvent) : (s.log e).bank2 = s.bank2 := rfl
@[simp] theorem State.log_bank3 (e : DevEvent) : (s.log e).bank3 = s.bank3 := rfl
@[simp] theorem State.log_mem (e : DevEvent) : (s.log e).mem = s.mem := rfl
@[simp] theorem State.log_queue (e : DevEvent) : (s.log e).queue = s.queue := rfl
@[simp] theorem State.log_inhibit (e : DevEvent) : (s.log e).inhibit = s.inhibit := rfl
@[simp] theorem State.log_skip (e : DevEvent) : (s.log e).skip = s.skip := rfl
@[simp] theorem State.log_mode (e : DevEvent) : (s.log e).mode = s.mode := rfl
@[simp] theorem State.log_pmcDelay (e : DevEvent) : (s.log e).pmcDelay = s.pmcDelay := rfl
@[simp] theorem State.log_divHazard (e : DevEvent) : (s.log e).divHazard = s.divHazard := rfl
@[simp] theorem State.log_devLog (e : DevEvent) : (s.log e).devLog = s.devLog ++ [e] := rfl
@[simp] theorem State.log_irq (e : DevEvent) : (s.log e).irq = s.irq := rfl
@[simp] theorem State.log_draws (e : DevEvent) : (s.log e).draws = s.draws := rfl

/-! `State.setCy` -/

@[simp] theorem State.setCy_cfg (v : Bool) : (s.setCy v).cfg = s.cfg := rfl
@[simp] theorem State.setCy_pc (v : Bool) : (s.setCy v).pc = s.pc := rfl
@[simp] theorem State.setCy_psw (v : Bool) : (s.setCy v).psw = { s.psw with cy := v } := rfl
@[simp] theorem State.setCy_sp (v : Bool) : (s.setCy v).sp = s.sp := rfl
@[simp] theorem State.setCy_es (v : Bool) : (s.setCy v).es = s.es := rfl
@[simp] theorem State.setCy_cs (v : Bool) : (s.setCy v).cs = s.cs := rfl
@[simp] theorem State.setCy_pmc (v : Bool) : (s.setCy v).pmc = s.pmc := rfl
@[simp] theorem State.setCy_macr (v : Bool) : (s.setCy v).macr = s.macr := rfl
@[simp] theorem State.setCy_bank0 (v : Bool) : (s.setCy v).bank0 = s.bank0 := rfl
@[simp] theorem State.setCy_bank1 (v : Bool) : (s.setCy v).bank1 = s.bank1 := rfl
@[simp] theorem State.setCy_bank2 (v : Bool) : (s.setCy v).bank2 = s.bank2 := rfl
@[simp] theorem State.setCy_bank3 (v : Bool) : (s.setCy v).bank3 = s.bank3 := rfl
@[simp] theorem State.setCy_mem (v : Bool) : (s.setCy v).mem = s.mem := rfl
@[simp] theorem State.setCy_queue (v : Bool) : (s.setCy v).queue = s.queue := rfl
@[simp] theorem State.setCy_inhibit (v : Bool) : (s.setCy v).inhibit = s.inhibit := rfl
@[simp] theorem State.setCy_skip (v : Bool) : (s.setCy v).skip = s.skip := rfl
@[simp] theorem State.setCy_mode (v : Bool) : (s.setCy v).mode = s.mode := rfl
@[simp] theorem State.setCy_pmcDelay (v : Bool) : (s.setCy v).pmcDelay = s.pmcDelay := rfl
@[simp] theorem State.setCy_divHazard (v : Bool) : (s.setCy v).divHazard = s.divHazard := rfl
@[simp] theorem State.setCy_devLog (v : Bool) : (s.setCy v).devLog = s.devLog := rfl
@[simp] theorem State.setCy_irq (v : Bool) : (s.setCy v).irq = s.irq := rfl
@[simp] theorem State.setCy_draws (v : Bool) : (s.setCy v).draws = s.draws := rfl

/-! `State.setAc` -/

@[simp] theorem State.setAc_cfg (v : Bool) : (s.setAc v).cfg = s.cfg := rfl
@[simp] theorem State.setAc_pc (v : Bool) : (s.setAc v).pc = s.pc := rfl
@[simp] theorem State.setAc_psw (v : Bool) : (s.setAc v).psw = { s.psw with ac := v } := rfl
@[simp] theorem State.setAc_sp (v : Bool) : (s.setAc v).sp = s.sp := rfl
@[simp] theorem State.setAc_es (v : Bool) : (s.setAc v).es = s.es := rfl
@[simp] theorem State.setAc_cs (v : Bool) : (s.setAc v).cs = s.cs := rfl
@[simp] theorem State.setAc_pmc (v : Bool) : (s.setAc v).pmc = s.pmc := rfl
@[simp] theorem State.setAc_macr (v : Bool) : (s.setAc v).macr = s.macr := rfl
@[simp] theorem State.setAc_bank0 (v : Bool) : (s.setAc v).bank0 = s.bank0 := rfl
@[simp] theorem State.setAc_bank1 (v : Bool) : (s.setAc v).bank1 = s.bank1 := rfl
@[simp] theorem State.setAc_bank2 (v : Bool) : (s.setAc v).bank2 = s.bank2 := rfl
@[simp] theorem State.setAc_bank3 (v : Bool) : (s.setAc v).bank3 = s.bank3 := rfl
@[simp] theorem State.setAc_mem (v : Bool) : (s.setAc v).mem = s.mem := rfl
@[simp] theorem State.setAc_queue (v : Bool) : (s.setAc v).queue = s.queue := rfl
@[simp] theorem State.setAc_inhibit (v : Bool) : (s.setAc v).inhibit = s.inhibit := rfl
@[simp] theorem State.setAc_skip (v : Bool) : (s.setAc v).skip = s.skip := rfl
@[simp] theorem State.setAc_mode (v : Bool) : (s.setAc v).mode = s.mode := rfl
@[simp] theorem State.setAc_pmcDelay (v : Bool) : (s.setAc v).pmcDelay = s.pmcDelay := rfl
@[simp] theorem State.setAc_divHazard (v : Bool) : (s.setAc v).divHazard = s.divHazard := rfl
@[simp] theorem State.setAc_devLog (v : Bool) : (s.setAc v).devLog = s.devLog := rfl
@[simp] theorem State.setAc_irq (v : Bool) : (s.setAc v).irq = s.irq := rfl
@[simp] theorem State.setAc_draws (v : Bool) : (s.setAc v).draws = s.draws := rfl

/-! `State.setZ` -/

@[simp] theorem State.setZ_cfg (v : Bool) : (s.setZ v).cfg = s.cfg := rfl
@[simp] theorem State.setZ_pc (v : Bool) : (s.setZ v).pc = s.pc := rfl
@[simp] theorem State.setZ_psw (v : Bool) : (s.setZ v).psw = { s.psw with z := v } := rfl
@[simp] theorem State.setZ_sp (v : Bool) : (s.setZ v).sp = s.sp := rfl
@[simp] theorem State.setZ_es (v : Bool) : (s.setZ v).es = s.es := rfl
@[simp] theorem State.setZ_cs (v : Bool) : (s.setZ v).cs = s.cs := rfl
@[simp] theorem State.setZ_pmc (v : Bool) : (s.setZ v).pmc = s.pmc := rfl
@[simp] theorem State.setZ_macr (v : Bool) : (s.setZ v).macr = s.macr := rfl
@[simp] theorem State.setZ_bank0 (v : Bool) : (s.setZ v).bank0 = s.bank0 := rfl
@[simp] theorem State.setZ_bank1 (v : Bool) : (s.setZ v).bank1 = s.bank1 := rfl
@[simp] theorem State.setZ_bank2 (v : Bool) : (s.setZ v).bank2 = s.bank2 := rfl
@[simp] theorem State.setZ_bank3 (v : Bool) : (s.setZ v).bank3 = s.bank3 := rfl
@[simp] theorem State.setZ_mem (v : Bool) : (s.setZ v).mem = s.mem := rfl
@[simp] theorem State.setZ_queue (v : Bool) : (s.setZ v).queue = s.queue := rfl
@[simp] theorem State.setZ_inhibit (v : Bool) : (s.setZ v).inhibit = s.inhibit := rfl
@[simp] theorem State.setZ_skip (v : Bool) : (s.setZ v).skip = s.skip := rfl
@[simp] theorem State.setZ_mode (v : Bool) : (s.setZ v).mode = s.mode := rfl
@[simp] theorem State.setZ_pmcDelay (v : Bool) : (s.setZ v).pmcDelay = s.pmcDelay := rfl
@[simp] theorem State.setZ_divHazard (v : Bool) : (s.setZ v).divHazard = s.divHazard := rfl
@[simp] theorem State.setZ_devLog (v : Bool) : (s.setZ v).devLog = s.devLog := rfl
@[simp] theorem State.setZ_irq (v : Bool) : (s.setZ v).irq = s.irq := rfl
@[simp] theorem State.setZ_draws (v : Bool) : (s.setZ v).draws = s.draws := rfl

/-! `State.setFlags` -/

@[simp] theorem State.setFlags_cfg (f : Flags) : (s.setFlags f).cfg = s.cfg := rfl
@[simp] theorem State.setFlags_pc (f : Flags) : (s.setFlags f).pc = s.pc := rfl
@[simp] theorem State.setFlags_psw (f : Flags) : (s.setFlags f).psw = s.psw.withFlags f.z f.ac f.cy := rfl
@[simp] theorem State.setFlags_sp (f : Flags) : (s.setFlags f).sp = s.sp := rfl
@[simp] theorem State.setFlags_es (f : Flags) : (s.setFlags f).es = s.es := rfl
@[simp] theorem State.setFlags_cs (f : Flags) : (s.setFlags f).cs = s.cs := rfl
@[simp] theorem State.setFlags_pmc (f : Flags) : (s.setFlags f).pmc = s.pmc := rfl
@[simp] theorem State.setFlags_macr (f : Flags) : (s.setFlags f).macr = s.macr := rfl
@[simp] theorem State.setFlags_bank0 (f : Flags) : (s.setFlags f).bank0 = s.bank0 := rfl
@[simp] theorem State.setFlags_bank1 (f : Flags) : (s.setFlags f).bank1 = s.bank1 := rfl
@[simp] theorem State.setFlags_bank2 (f : Flags) : (s.setFlags f).bank2 = s.bank2 := rfl
@[simp] theorem State.setFlags_bank3 (f : Flags) : (s.setFlags f).bank3 = s.bank3 := rfl
@[simp] theorem State.setFlags_mem (f : Flags) : (s.setFlags f).mem = s.mem := rfl
@[simp] theorem State.setFlags_queue (f : Flags) : (s.setFlags f).queue = s.queue := rfl
@[simp] theorem State.setFlags_inhibit (f : Flags) : (s.setFlags f).inhibit = s.inhibit := rfl
@[simp] theorem State.setFlags_skip (f : Flags) : (s.setFlags f).skip = s.skip := rfl
@[simp] theorem State.setFlags_mode (f : Flags) : (s.setFlags f).mode = s.mode := rfl
@[simp] theorem State.setFlags_pmcDelay (f : Flags) : (s.setFlags f).pmcDelay = s.pmcDelay := rfl
@[simp] theorem State.setFlags_divHazard (f : Flags) : (s.setFlags f).divHazard = s.divHazard := rfl
@[simp] theorem State.setFlags_devLog (f : Flags) : (s.setFlags f).devLog = s.devLog := rfl
@[simp] theorem State.setFlags_irq (f : Flags) : (s.setFlags f).irq = s.irq := rfl
@[simp] theorem State.setFlags_draws (f : Flags) : (s.setFlags f).draws = s.draws := rfl

/-! `State.setFlags16` -/

@[simp] theorem State.setFlags16_cfg (r : Alu16) : (s.setFlags16 r).cfg = s.cfg := rfl
@[simp] theorem State.setFlags16_pc (r : Alu16) : (s.setFlags16 r).pc = s.pc := rfl
@[simp] theorem State.setFlags16_psw (r : Alu16) : (s.setFlags16 r).psw = s.psw.withFlags r.z (s.freeBit .auxCarry) r.cy :=
  rfl
@[simp] theorem State.setFlags16_sp (r : Alu16) : (s.setFlags16 r).sp = s.sp := rfl
@[simp] theorem State.setFlags16_es (r : Alu16) : (s.setFlags16 r).es = s.es := rfl
@[simp] theorem State.setFlags16_cs (r : Alu16) : (s.setFlags16 r).cs = s.cs := rfl
@[simp] theorem State.setFlags16_pmc (r : Alu16) : (s.setFlags16 r).pmc = s.pmc := rfl
@[simp] theorem State.setFlags16_macr (r : Alu16) : (s.setFlags16 r).macr = s.macr := rfl
@[simp] theorem State.setFlags16_bank0 (r : Alu16) : (s.setFlags16 r).bank0 = s.bank0 := rfl
@[simp] theorem State.setFlags16_bank1 (r : Alu16) : (s.setFlags16 r).bank1 = s.bank1 := rfl
@[simp] theorem State.setFlags16_bank2 (r : Alu16) : (s.setFlags16 r).bank2 = s.bank2 := rfl
@[simp] theorem State.setFlags16_bank3 (r : Alu16) : (s.setFlags16 r).bank3 = s.bank3 := rfl
@[simp] theorem State.setFlags16_mem (r : Alu16) : (s.setFlags16 r).mem = s.mem := rfl
@[simp] theorem State.setFlags16_queue (r : Alu16) : (s.setFlags16 r).queue = s.queue := rfl
@[simp] theorem State.setFlags16_inhibit (r : Alu16) : (s.setFlags16 r).inhibit = s.inhibit := rfl
@[simp] theorem State.setFlags16_skip (r : Alu16) : (s.setFlags16 r).skip = s.skip := rfl
@[simp] theorem State.setFlags16_mode (r : Alu16) : (s.setFlags16 r).mode = s.mode := rfl
@[simp] theorem State.setFlags16_pmcDelay (r : Alu16) : (s.setFlags16 r).pmcDelay = s.pmcDelay := rfl
@[simp] theorem State.setFlags16_divHazard (r : Alu16) : (s.setFlags16 r).divHazard = s.divHazard := rfl
@[simp] theorem State.setFlags16_devLog (r : Alu16) : (s.setFlags16 r).devLog = s.devLog := rfl
@[simp] theorem State.setFlags16_irq (r : Alu16) : (s.setFlags16 r).irq = s.irq := rfl
@[simp] theorem State.setFlags16_draws (r : Alu16) : (s.setFlags16 r).draws = s.draws := rfl

/-! `jump` -/

@[simp] theorem jump_cfg (a : Addr) : (jump s a).cfg = s.cfg := rfl
@[simp] theorem jump_pc (a : Addr) : (jump s a).pc = a := rfl
@[simp] theorem jump_psw (a : Addr) : (jump s a).psw = s.psw := rfl
@[simp] theorem jump_sp (a : Addr) : (jump s a).sp = s.sp := rfl
@[simp] theorem jump_es (a : Addr) : (jump s a).es = s.es := rfl
@[simp] theorem jump_cs (a : Addr) : (jump s a).cs = s.cs := rfl
@[simp] theorem jump_pmc (a : Addr) : (jump s a).pmc = s.pmc := rfl
@[simp] theorem jump_macr (a : Addr) : (jump s a).macr = s.macr := rfl
@[simp] theorem jump_bank0 (a : Addr) : (jump s a).bank0 = s.bank0 := rfl
@[simp] theorem jump_bank1 (a : Addr) : (jump s a).bank1 = s.bank1 := rfl
@[simp] theorem jump_bank2 (a : Addr) : (jump s a).bank2 = s.bank2 := rfl
@[simp] theorem jump_bank3 (a : Addr) : (jump s a).bank3 = s.bank3 := rfl
@[simp] theorem jump_mem (a : Addr) : (jump s a).mem = s.mem := rfl
@[simp] theorem jump_queue (a : Addr) : (jump s a).queue = s.mem := rfl
@[simp] theorem jump_inhibit (a : Addr) : (jump s a).inhibit = s.inhibit := rfl
@[simp] theorem jump_skip (a : Addr) : (jump s a).skip = s.skip := rfl
@[simp] theorem jump_mode (a : Addr) : (jump s a).mode = s.mode := rfl
@[simp] theorem jump_pmcDelay (a : Addr) : (jump s a).pmcDelay = s.pmcDelay := rfl
@[simp] theorem jump_divHazard (a : Addr) : (jump s a).divHazard = s.divHazard := rfl
@[simp] theorem jump_devLog (a : Addr) : (jump s a).devLog = s.devLog := rfl
@[simp] theorem jump_irq (a : Addr) : (jump s a).irq = s.irq := rfl
@[simp] theorem jump_draws (a : Addr) : (jump s a).draws = s.draws := rfl

/-! `holdInterrupts` -/

@[simp] theorem holdInterrupts_cfg : (holdInterrupts s).cfg = s.cfg := rfl
@[simp] theorem holdInterrupts_pc : (holdInterrupts s).pc = s.pc := rfl
@[simp] theorem holdInterrupts_psw : (holdInterrupts s).psw = s.psw := rfl
@[simp] theorem holdInterrupts_sp : (holdInterrupts s).sp = s.sp := rfl
@[simp] theorem holdInterrupts_es : (holdInterrupts s).es = s.es := rfl
@[simp] theorem holdInterrupts_cs : (holdInterrupts s).cs = s.cs := rfl
@[simp] theorem holdInterrupts_pmc : (holdInterrupts s).pmc = s.pmc := rfl
@[simp] theorem holdInterrupts_macr : (holdInterrupts s).macr = s.macr := rfl
@[simp] theorem holdInterrupts_bank0 : (holdInterrupts s).bank0 = s.bank0 := rfl
@[simp] theorem holdInterrupts_bank1 : (holdInterrupts s).bank1 = s.bank1 := rfl
@[simp] theorem holdInterrupts_bank2 : (holdInterrupts s).bank2 = s.bank2 := rfl
@[simp] theorem holdInterrupts_bank3 : (holdInterrupts s).bank3 = s.bank3 := rfl
@[simp] theorem holdInterrupts_mem : (holdInterrupts s).mem = s.mem := rfl
@[simp] theorem holdInterrupts_queue : (holdInterrupts s).queue = s.queue := rfl
@[simp] theorem holdInterrupts_inhibit : (holdInterrupts s).inhibit = true := rfl
@[simp] theorem holdInterrupts_skip : (holdInterrupts s).skip = s.skip := rfl
@[simp] theorem holdInterrupts_mode : (holdInterrupts s).mode = s.mode := rfl
@[simp] theorem holdInterrupts_pmcDelay : (holdInterrupts s).pmcDelay = s.pmcDelay := rfl
@[simp] theorem holdInterrupts_divHazard : (holdInterrupts s).divHazard = s.divHazard := rfl
@[simp] theorem holdInterrupts_devLog : (holdInterrupts s).devLog = s.devLog := rfl
@[simp] theorem holdInterrupts_irq : (holdInterrupts s).irq = s.irq := rfl
@[simp] theorem holdInterrupts_draws : (holdInterrupts s).draws = s.draws := rfl

/-! `markDivision` -/

@[simp] theorem markDivision_cfg : (markDivision s).cfg = s.cfg := rfl
@[simp] theorem markDivision_pc : (markDivision s).pc = s.pc := rfl
@[simp] theorem markDivision_psw : (markDivision s).psw = s.psw := rfl
@[simp] theorem markDivision_sp : (markDivision s).sp = s.sp := rfl
@[simp] theorem markDivision_es : (markDivision s).es = s.es := rfl
@[simp] theorem markDivision_cs : (markDivision s).cs = s.cs := rfl
@[simp] theorem markDivision_pmc : (markDivision s).pmc = s.pmc := rfl
@[simp] theorem markDivision_macr : (markDivision s).macr = s.macr := rfl
@[simp] theorem markDivision_bank0 : (markDivision s).bank0 = s.bank0 := rfl
@[simp] theorem markDivision_bank1 : (markDivision s).bank1 = s.bank1 := rfl
@[simp] theorem markDivision_bank2 : (markDivision s).bank2 = s.bank2 := rfl
@[simp] theorem markDivision_bank3 : (markDivision s).bank3 = s.bank3 := rfl
@[simp] theorem markDivision_mem : (markDivision s).mem = s.mem := rfl
@[simp] theorem markDivision_queue : (markDivision s).queue = s.queue := rfl
@[simp] theorem markDivision_inhibit : (markDivision s).inhibit = s.inhibit := rfl
@[simp] theorem markDivision_skip : (markDivision s).skip = s.skip := rfl
@[simp] theorem markDivision_mode : (markDivision s).mode = s.mode := rfl
@[simp] theorem markDivision_pmcDelay : (markDivision s).pmcDelay = s.pmcDelay := rfl
@[simp] theorem markDivision_devLog : (markDivision s).devLog = s.devLog := rfl
@[simp] theorem markDivision_irq : (markDivision s).irq = s.irq := rfl
@[simp] theorem markDivision_draws : (markDivision s).draws = s.draws := rfl

/-! `startInstruction` -/

@[simp] theorem startInstruction_cfg (n : Nat) : (startInstruction s n).cfg = s.cfg := rfl
@[simp] theorem startInstruction_pc (n : Nat) : (startInstruction s n).pc = s.pc + BitVec.ofNat 20 n := rfl
@[simp] theorem startInstruction_psw (n : Nat) : (startInstruction s n).psw = s.psw := rfl
@[simp] theorem startInstruction_sp (n : Nat) : (startInstruction s n).sp = s.sp := rfl
@[simp] theorem startInstruction_es (n : Nat) : (startInstruction s n).es = s.es := rfl
@[simp] theorem startInstruction_cs (n : Nat) : (startInstruction s n).cs = s.cs := rfl
@[simp] theorem startInstruction_pmc (n : Nat) : (startInstruction s n).pmc = s.pmc := rfl
@[simp] theorem startInstruction_macr (n : Nat) : (startInstruction s n).macr = s.macr := rfl
@[simp] theorem startInstruction_bank0 (n : Nat) : (startInstruction s n).bank0 = s.bank0 := rfl
@[simp] theorem startInstruction_bank1 (n : Nat) : (startInstruction s n).bank1 = s.bank1 := rfl
@[simp] theorem startInstruction_bank2 (n : Nat) : (startInstruction s n).bank2 = s.bank2 := rfl
@[simp] theorem startInstruction_bank3 (n : Nat) : (startInstruction s n).bank3 = s.bank3 := rfl
@[simp] theorem startInstruction_mem (n : Nat) : (startInstruction s n).mem = s.mem := rfl
@[simp] theorem startInstruction_queue (n : Nat) : (startInstruction s n).queue = s.queue := rfl
@[simp] theorem startInstruction_inhibit (n : Nat) : (startInstruction s n).inhibit = false := rfl
@[simp] theorem startInstruction_skip (n : Nat) : (startInstruction s n).skip = false := rfl
@[simp] theorem startInstruction_mode (n : Nat) : (startInstruction s n).mode = s.mode := rfl
@[simp] theorem startInstruction_pmcDelay (n : Nat) : (startInstruction s n).pmcDelay = s.pmcDelay - 1 := rfl
@[simp] theorem startInstruction_divHazard (n : Nat) : (startInstruction s n).divHazard = false := rfl
@[simp] theorem startInstruction_devLog (n : Nat) : (startInstruction s n).devLog = s.devLog := rfl
@[simp] theorem startInstruction_irq (n : Nat) : (startInstruction s n).irq = s.irq := rfl
@[simp] theorem startInstruction_draws (n : Nat) : (startInstruction s n).draws = s.draws := rfl

/-! `tick` -/

@[simp] theorem tick_cfg : (tick s).cfg = s.cfg := rfl
@[simp] theorem tick_pc : (tick s).pc = s.pc := rfl
@[simp] theorem tick_psw : (tick s).psw = s.psw := rfl
@[simp] theorem tick_sp : (tick s).sp = s.sp := rfl
@[simp] theorem tick_es : (tick s).es = s.es := rfl
@[simp] theorem tick_cs : (tick s).cs = s.cs := rfl
@[simp] theorem tick_pmc : (tick s).pmc = s.pmc := rfl
@[simp] theorem tick_macr : (tick s).macr = s.macr := rfl
@[simp] theorem tick_bank0 : (tick s).bank0 = s.bank0 := rfl
@[simp] theorem tick_bank1 : (tick s).bank1 = s.bank1 := rfl
@[simp] theorem tick_bank2 : (tick s).bank2 = s.bank2 := rfl
@[simp] theorem tick_bank3 : (tick s).bank3 = s.bank3 := rfl
@[simp] theorem tick_mem : (tick s).mem = s.mem := rfl
@[simp] theorem tick_queue : (tick s).queue = nextFetchView s := rfl
@[simp] theorem tick_inhibit : (tick s).inhibit = s.inhibit := rfl
@[simp] theorem tick_skip : (tick s).skip = s.skip := rfl
@[simp] theorem tick_mode : (tick s).mode = s.mode := rfl
@[simp] theorem tick_pmcDelay : (tick s).pmcDelay = s.pmcDelay := rfl
@[simp] theorem tick_divHazard : (tick s).divHazard = s.divHazard := rfl
@[simp] theorem tick_devLog : (tick s).devLog = s.devLog := rfl
@[simp] theorem tick_irq : (tick s).irq = s.irq := rfl
@[simp] theorem tick_draws : (tick s).draws = s.draws + 1 := rfl

/-! `spoilDivision` -/

@[simp] theorem spoilDivision_cfg : (spoilDivision s).cfg = s.cfg := by unfold spoilDivision; split <;> simp
@[simp] theorem spoilDivision_pc : (spoilDivision s).pc = s.pc := by unfold spoilDivision; split <;> simp
@[simp] theorem spoilDivision_psw : (spoilDivision s).psw = s.psw := by unfold spoilDivision; split <;> simp
@[simp] theorem spoilDivision_sp : (spoilDivision s).sp = s.sp := by unfold spoilDivision; split <;> simp
@[simp] theorem spoilDivision_es : (spoilDivision s).es = s.es := by unfold spoilDivision; split <;> simp
@[simp] theorem spoilDivision_cs : (spoilDivision s).cs = s.cs := by unfold spoilDivision; split <;> simp
@[simp] theorem spoilDivision_pmc : (spoilDivision s).pmc = s.pmc := by unfold spoilDivision; split <;> simp
@[simp] theorem spoilDivision_macr : (spoilDivision s).macr = s.macr := by unfold spoilDivision; split <;> simp
@[simp] theorem spoilDivision_mem : (spoilDivision s).mem = s.mem := by unfold spoilDivision; split <;> simp
@[simp] theorem spoilDivision_queue : (spoilDivision s).queue = s.queue := by unfold spoilDivision; split <;> simp
@[simp] theorem spoilDivision_inhibit : (spoilDivision s).inhibit = s.inhibit :=
  by unfold spoilDivision; split <;> simp
@[simp] theorem spoilDivision_skip : (spoilDivision s).skip = s.skip := by unfold spoilDivision; split <;> simp
@[simp] theorem spoilDivision_mode : (spoilDivision s).mode = s.mode := by unfold spoilDivision; split <;> simp
@[simp] theorem spoilDivision_pmcDelay : (spoilDivision s).pmcDelay = s.pmcDelay :=
  by unfold spoilDivision; split <;> simp
@[simp] theorem spoilDivision_divHazard : (spoilDivision s).divHazard = s.divHazard :=
  by unfold spoilDivision; split <;> simp
@[simp] theorem spoilDivision_devLog : (spoilDivision s).devLog = s.devLog := by unfold spoilDivision; split <;> simp
@[simp] theorem spoilDivision_irq : (spoilDivision s).irq = s.irq := by unfold spoilDivision; split <;> simp
@[simp] theorem spoilDivision_draws : (spoilDivision s).draws = s.draws := by unfold spoilDivision; split <;> simp

end

end Sys2Proof.Machine
end

