-- ==== Sys2Proof/Laws/Changes.lean ====
section
/-!
SUPPORT. What each operand operation changes and leaves alone, said once: registers, the data path, the stack.
-/

namespace Sys2Proof.Machine

/-! ## Registers as storage -/

theorem regAddr_range (n : BankNo) (r : Reg) : 0xFFEE0 ≤ regAddr n r ∧ regAddr n r ≤ 0xFFEFF := by
  cases n <;> cases r <;> decide

theorem bankAt_regAddr (n : BankNo) (r : Reg) : bankAt (regAddr n r) = n := by cases n <;> cases r <;> rfl

theorem ofCode_regAddr (n : BankNo) (r : Reg) : Reg.ofCode (regAddr n r) = r := by cases n <;> cases r <;> rfl

theorem regAddr_at {a : Nat} (h1 : 0xFFEE0 ≤ a) (h2 : a ≤ 0xFFEFF) : regAddr (bankAt a) (Reg.ofCode a) = a := by
  interval_cases a <;> rfl

theorem regAddr_inj {n m : BankNo} {r q : Reg} (h : regAddr n r = regAddr m q) : n = m ∧ r = q := by
  constructor
  · rw [← bankAt_regAddr n r, h, bankAt_regAddr]
  · rw [← ofCode_regAddr n r, h, ofCode_regAddr]

theorem cell_regAddr (s : State) (n : BankNo) (r : Reg) : s.cell (regAddr n r) = (s.bank n).get r := by
  simp [State.cell, regAddr_range, bankAt_regAddr, ofCode_regAddr]

theorem Bank.get_set (k : Bank) (r q : Reg) (v : Byte) : (k.set r v).get q = if q = r then v else k.get q := by
  cases r <;> cases q <;> rfl

theorem State.bank_withBank (s : State) (n m : BankNo) (k : Bank) :
    (s.withBank n k).bank m = if m = n then k else s.bank m := by
  cases n <;> cases m <;> rfl

@[simp] theorem State.rbs_withBank (s : State) (n : BankNo) (k : Bank) : (s.withBank n k).rbs = s.rbs := by
  cases n <;> rfl

/-- A register written by bank and name is one storage byte. -/
theorem cell_withBank_set (s : State) (n : BankNo) (r : Reg) (v : Byte) (x : Nat) :
    (s.withBank n ((s.bank n).set r v)).cell x = if regAddr n r = x then v else s.cell x := by
  unfold State.cell
  by_cases hx : 0xFFEE0 ≤ x ∧ x ≤ 0xFFEFF
  · simp only [hx, and_self, if_true]
    rw [State.bank_withBank]
    have e := regAddr_at hx.1 hx.2
    by_cases hn : bankAt x = n
    · subst hn
      rw [if_pos rfl, Bank.get_set]
      by_cases hr : Reg.ofCode x = r
      · subst hr; simp [e]
      · have : regAddr (bankAt x) r ≠ x := fun h => hr (by rw [← h, ofCode_regAddr])
        simp [hr, this]
    · have : regAddr n r ≠ x := fun h => hn (by rw [← h, bankAt_regAddr])
      simp [hn, this]
  · have : regAddr n r ≠ x := fun h => hx (h ▸ regAddr_range n r)
    simp [hx, this]

theorem cell_mem_write {s : State} (hm : s.mem.wf = true) (a : Nat) (v : Byte) (ha : a < 0xFFEE0 ∨ 0xFFEFF < a) (x : Nat) :
    ({ s with mem := s.mem.write a v } : State).cell x = if a = x then v else s.cell x := by
  unfold State.cell
  by_cases hx : 0xFFEE0 ≤ x ∧ x ≤ 0xFFEFF
  · have : a ≠ x := by omega
    simp only [hx, and_self, if_true, this, if_false]
    cases bankAt x <;> rfl
  · simp only [hx, if_false]
    rw [Memory.read_write hm]
    simp [eq_comm]

/-- `cell` sees memory and the banks alone. -/
theorem cell_congr {s t : State} (hm : t.mem = s.mem) (hb : ∀ n, t.bank n = s.bank n) (x : Nat) : t.cell x = s.cell x := by
  simp [State.cell, hm, hb]

/-! ## Reading has no effect but on the history of the devices -/

/-- The state with events added to the history. -/
def State.logAll (s : State) (e : List DevEvent) : State := { s with devLog := s.devLog ++ e }

theorem State.logAll_nil (s : State) : s.logAll [] = s := by simp [State.logAll]

theorem State.logAll_append (s : State) (e f : List DevEvent) : (s.logAll e).logAll f = s.logAll (e ++ f) := by
  simp [State.logAll]

theorem State.Legal.logAll {s : State} (h : s.Legal) (e : List DevEvent) : (s.logAll e).Legal :=
  ⟨h.cfg, h.mem, h.queue, h.sp, h.es, h.cs, h.pmc, h.psw, h.maa, h.skip, h.standby⟩

theorem touchByte_eq (s : State) (a : Addr) : touchByte s a = s.logAll (byteEvent s a .read8) := by
  unfold touchByte byteEvent
  cases place s a <;> simp [State.log, State.logAll]

theorem touchWord_eq (s : State) (a : Addr) : touchWord s a = s.logAll
    (match deviceWord s a with
      | some n => [.read16 n]
      | none => byteEvent s (evenAddr a) .read8 ++ byteEvent s (evenAddr a + 1) .read8) := by
  unfold touchWord
  cases deviceWord s a with
  | some n => rfl
  | none =>
    simp only [touchByte_eq]
    exact State.logAll_append s _ _

theorem Loc8.touched_eq (s : State) (l : Loc8) : l.touched s = s.logAll (readEvents8 s l) := by
  cases l with
  | reg r => exact (State.logAll_nil s).symm
  | mem m =>
    simp only [Loc8.touched, readEvents8]
    cases memAddr s m with
    | error e => exact (State.logAll_nil s).symm
    | ok ea =>
      cases ea with
      | data a => exact touchByte_eq s a
      | stack off => exact (State.logAll_nil s).symm

theorem Src8.touched_eq (s : State) (l : Src8) : l.touched s = s.logAll (sourceEvents8 s l) := by
  cases l with
  | imm v => exact (State.logAll_nil s).symm
  | loc l => exact Loc8.touched_eq s l

theorem Loc16.touched_eq (s : State) (l : Loc16) : l.touched s = s.logAll (readEvents16 s l) := by
  cases l with
  | pair p => exact (State.logAll_nil s).symm
  | mem m =>
    simp only [Loc16.touched, readEvents16]
    cases memAddr s m with
    | error e => exact (State.logAll_nil s).symm
    | ok ea =>
      cases ea with
      | data a => exact touchWord_eq s a
      | stack off => exact (State.logAll_nil s).symm

theorem Src16.touched_eq (s : State) (l : Src16) : l.touched s = s.logAll (sourceEvents16 s l) := by
  cases l with
  | imm v => exact (State.logAll_nil s).symm
  | loc l => exact Loc16.touched_eq s l

/-! ## Changes, put together -/

/-- Nothing changes. -/
theorem Changes.refl (s : State) : Changes s s unchanged unchanged [] := by
  constructor <;> simp [unchanged]

theorem cell_logAll (s : State) (e : List DevEvent) (x : Nat) : (s.logAll e).cell x = s.cell x :=
  cell_congr rfl (fun n => by cases n <;> rfl) x

/-- Changes seen from before some events were added. -/
theorem Changes.after_log {s t : State} {e f : List DevEvent} {c : Nat → Option Byte} {k : CpuSfr → Option Byte}
    (h : Changes (s.logAll e) t c k f) : Changes s t c k (e ++ f) := by
  refine ⟨fun a => ?_, fun r => ?_, ?_, h.cfg, h.mode, h.skip, h.pmcDelay, h.irq, h.draws⟩
  · rw [h.storage a, cell_logAll]
  · rw [h.control r]
    cases r <;> rfl
  · rw [h.seen]; simp [State.logAll]

/-- Only events. -/
theorem Changes.logAll (s : State) (e : List DevEvent) : Changes s (s.logAll e) unchanged unchanged e := by
  simpa using (Changes.refl (s.logAll e)).after_log

/-- Two changes in a row. -/
theorem Changes.trans {s t u : State} {c d : Nat → Option Byte} {k l : CpuSfr → Option Byte} {e f : List DevEvent}
    (h : Changes s t c k e) (g : Changes t u d l f) :
    Changes s u (fun x => (d x).or (c x)) (fun r => (l r).or (k r)) (e ++ f) := by
  refine ⟨fun a => ?_, fun r => ?_, ?_, g.cfg.trans h.cfg, g.mode.trans h.mode, g.skip.trans h.skip, ?_,
    g.irq.trans h.irq, g.draws.trans h.draws⟩
  · rw [g.storage, h.storage]; cases d a <;> simp
  · rw [g.control, h.control]; cases l r <;> simp
  · rw [g.seen, h.seen, List.append_assoc]
  · rw [g.pmcDelay, h.pmcDelay]; cases l .pmc <;> rfl

theorem Changes.congr {s t : State} {c d : Nat → Option Byte} {k l : CpuSfr → Option Byte} {e f : List DevEvent}
    (h : Changes s t c k e) (hc : ∀ x, c x = d x) (hk : ∀ r, k r = l r) (he : e = f) : Changes s t d l f := by
  obtain rfl : c = d := funext hc
  obtain rfl : k = l := funext hk
  exact he ▸ h

theorem Changes.psw_eq {s t : State} {c : Nat → Option Byte} {k : CpuSfr → Option Byte} {e : List DevEvent}
    (h : Changes s t c k e) : t.psw = match k .psw with | some b => Psw.ofByte b | none => s.psw := by
  have := h.control .psw
  cases hk : k .psw with
  | none => rw [hk] at this; exact Psw.toByte_inj this
  | some b =>
    rw [hk] at this
    have e : t.psw.toByte = b := this
    simp only [← e, Psw.ofByte_toByte]

/-- PSW is then changed. -/
theorem Changes.withPsw {s t : State} {c : Nat → Option Byte} {k : CpuSfr → Option Byte} {e : List DevEvent}
    (h : Changes s t c k e) (p : Psw) :
    Changes s { t with psw := p } c (fun r => if r = .psw then some p.toByte else k r) e := by
  refine ⟨fun a => ?_, fun r => ?_, h.seen, h.cfg, h.mode, h.skip, ?_, h.irq, h.draws⟩
  · rw [← h.storage a]; exact cell_congr rfl (fun n => by cases n <;> rfl) a
  · have := h.control r
    cases r <;> simp_all [State.readCpu]
  · simpa using h.pmcDelay

end Sys2Proof.Machine
end

