-- ==== Sys2Proof/Laws/Store.lean ====
section
/-!
SUPPORT. Everything a write can do, said once: a byte or a word at a data address, an operand of either width.
-/

namespace Sys2Proof.Machine

/-! ## What an address resolves to depends on the parameters, on MAA and on the PMC delay alone -/

theorem place_congr {s t : State} (hc : t.cfg = s.cfg) (hp : t.pmc = s.pmc) (hd : t.pmcDelay = s.pmcDelay) (a : Addr) :
    place t a = place s a := by
  obtain ⟨⟩ := s
  obtain ⟨⟩ := t
  cases hc
  cases hp
  cases hd
  rfl

@[simp] theorem place_logAll (s : State) (e : List DevEvent) (a : Addr) : place (s.logAll e) a = place s a := rfl

@[simp] theorem memAddr_logAll (s : State) (e : List DevEvent) (m : MemOp) : memAddr (s.logAll e) m = memAddr s m := by
  cases m <;> rfl

@[simp] theorem readEvents8_logAll (s : State) (e : List DevEvent) (l : Loc8) :
    readEvents8 (s.logAll e) l = readEvents8 s l := by
  cases l <;> simp [readEvents8, byteEvent]

@[simp] theorem sourceEvents8_logAll (s : State) (e : List DevEvent) (l : Src8) :
    sourceEvents8 (s.logAll e) l = sourceEvents8 s l := by
  cases l <;> simp [sourceEvents8]

@[simp] theorem readEvents16_logAll (s : State) (e : List DevEvent) (l : Loc16) :
    readEvents16 (s.logAll e) l = readEvents16 s l := by
  cases l <;> simp [readEvents16, byteEvent, deviceWord]

@[simp] theorem sourceEvents16_logAll (s : State) (e : List DevEvent) (l : Src16) :
    sourceEvents16 (s.logAll e) l = sourceEvents16 s l := by
  cases l <;> simp [sourceEvents16]

/-! ## CPU register bytes -/

/-- SP is even: its bit 0 is 0. -/
theorem getLsbD_zero_of_even {w : Word} (h : w &&& 1 = 0) : w[0] = false := by
  have := congrArg (fun v : Word => v.getLsbD 0) h
  simpa using this

theorem lowByte_even (w : Word) : lowByte (w &&& 65534#16) = lowByte w &&& 254#8 := by
  apply BitVec.eq_of_getLsbD_eq
  intro i hi
  simp only [lowByte]
  interval_cases i <;> simp

theorem highByte_even (w : Word) : highByte (w &&& 65534#16) = highByte w := by
  apply BitVec.eq_of_getLsbD_eq
  intro i hi
  simp only [highByte]
  interval_cases i <;> simp

theorem lowByte_of_even {w : Word} (h : w &&& 1 = 0) : lowByte w &&& 254#8 = lowByte w := by
  have h0 := getLsbD_zero_of_even h
  apply BitVec.eq_of_getLsbD_eq
  intro i hi
  simp only [lowByte]
  interval_cases i <;> simp [h0]

theorem even_of_masked (w : Word) : (w &&& 0xFFFE) &&& 1 = 0 := by
  rw [BitVec.and_assoc]; simp

theorem masked_of_even {w : Word} (h : w &&& 1 = 0) : w &&& 0xFFFE = w := by
  have h0 := getLsbD_zero_of_even h
  apply BitVec.eq_of_getLsbD_eq
  intro i hi
  interval_cases i <;> simp [h0]

/-- Byte `j` of MACR after byte `k` was put. -/
theorem macrByte_put (m : DWord) (k j : Fin 4) (v : Byte) :
    (putMacrByte m k v).extractLsb' (8 * j.val) 8 = if j = k then v else m.extractLsb' (8 * j.val) 8 := by
  apply BitVec.eq_of_getLsbD_eq
  intro i hi
  fin_cases k <;> fin_cases j <;> interval_cases i <;> simp [putMacrByte]

theorem byte_mask_mask (v : Byte) : (v &&& 0x0F) &&& 0xF0 = 0 := by
  rw [BitVec.and_assoc]; simp

theorem byte_bit_mask (v : Byte) : (v &&& 0x01) &&& 0xFE = 0 := by
  rw [BitVec.and_assoc]; simp

theorem and_one_of_bit {v : Byte} (h : bitOf v 0 = false) : v &&& 0x01 = 0 := by
  have h0 : v[0] = false := by simpa [bitOf] using h
  apply BitVec.eq_of_getLsbD_eq
  intro i hi
  interval_cases i <;> simp [h0]

/-- A write of a CPU register byte. -/
theorem writeCpu_spec {s : State} (h : s.Legal) (r : CpuSfr) (v : Byte)
    (hw : ¬(s.cfg.core = .s1 ∧ r = .pmc ∧ bitOf v 0 = true)) :
    ∃ t, s.writeCpu r v = .ok t
      ∧ Changes s t unchanged (fun q => if q = r then some (implemented s.cfg.core r v) else none) []
      ∧ Follows s t ∧ Quiet s t ∧ t.Legal := by
  cases r with
  | spl =>
    refine ⟨_, rfl, ⟨fun a => cell_congr rfl (fun n => by cases n <;> rfl) a, fun q => ?_, by simp, rfl, rfl, rfl, rfl,
      rfl, rfl⟩, ⟨rfl, rfl⟩, ⟨rfl, rfl⟩, { h with sp := even_of_masked _ }⟩
    cases q <;> simp [State.readCpu, State.setSp, lowByte_even, highByte_even, implemented]
  | sph =>
    refine ⟨_, rfl, ⟨fun a => cell_congr rfl (fun n => by cases n <;> rfl) a, fun q => ?_, by simp, rfl, rfl, rfl, rfl,
      rfl, rfl⟩, ⟨rfl, rfl⟩, ⟨rfl, rfl⟩, { h with sp := even_of_masked _ }⟩
    cases q <;> simp [State.readCpu, State.setSp, lowByte_even, highByte_even, implemented, lowByte_of_even h.sp]
  | psw =>
    refine ⟨_, rfl, ⟨fun a => cell_congr rfl (fun n => by cases n <;> rfl) a, fun q => ?_, by simp, rfl, rfl, rfl, rfl,
      rfl, rfl⟩, ⟨rfl, rfl⟩, ⟨rfl, rfl⟩, { h with psw := fun hc => ?_ }⟩
    · cases q <;> simp [State.readCpu, State.writePsw, implemented, Psw.toByte_onCore]
    · simp only [State.writePsw] at hc ⊢
      simp [Psw.onCore, hc]
  | cs =>
    refine ⟨_, rfl, ⟨fun a => cell_congr rfl (fun n => by cases n <;> rfl) a, fun q => ?_, by simp, rfl, rfl, rfl, rfl,
      rfl, rfl⟩, ⟨rfl, rfl⟩, ⟨rfl, rfl⟩, { h with cs := byte_mask_mask v }⟩
    cases q <;> simp [State.readCpu, State.writeCs, implemented]
  | es =>
    refine ⟨_, rfl, ⟨fun a => cell_congr rfl (fun n => by cases n <;> rfl) a, fun q => ?_, by simp, rfl, rfl, rfl, rfl,
      rfl, rfl⟩, ⟨rfl, rfl⟩, ⟨rfl, rfl⟩, { h with es := byte_mask_mask v }⟩
    cases q <;> simp [State.readCpu, State.writeEs, implemented]
  | pmc =>
    have hn : ¬(s.cfg.core = .s1 ∧ bitOf v 0 = true) := fun ⟨a, b⟩ => hw ⟨a, rfl, b⟩
    refine ⟨{ s with pmc := v &&& 0x01, pmcDelay := 2 }, ?_, ⟨fun a => cell_congr rfl (fun n => by cases n <;> rfl) a,
      fun q => ?_, by simp, rfl, rfl, rfl, rfl, rfl, rfl⟩, ⟨rfl, rfl⟩, ⟨rfl, rfl⟩,
      { h with pmc := byte_bit_mask v, maa := fun hc => ?_ }⟩
    · show s.writePmc v = _
      rw [State.writePmc, if_neg hn]
    · cases q <;> simp [State.readCpu, implemented]
    · cases hb : bitOf v 0 with
      | true => exact absurd ⟨hc, hb⟩ hn
      | false => exact and_one_of_bit hb
  | macr k =>
    refine ⟨_, rfl, ⟨fun a => cell_congr rfl (fun n => by cases n <;> rfl) a, fun q => ?_, by simp, rfl, rfl, rfl, rfl,
      rfl, rfl⟩, ⟨rfl, rfl⟩, ⟨rfl, rfl⟩, { h with }⟩
    cases q with
    | macr j =>
      have e := macrByte_put s.macr k j v
      simp only [State.readCpu, implemented, CpuSfr.macr.injEq]
      rw [e]
      split <;> simp
    | _ => simp [State.readCpu]

/-! ## Data addresses -/

theorem State.Legal.withBank {s : State} (h : s.Legal) (n : BankNo) (k : Bank) : (s.withBank n k).Legal := by
  cases n <;> exact { h with }

theorem State.Legal.withMem {s : State} (h : s.Legal) (a : Nat) (v : Byte) :
    ({ s with mem := s.mem.write a v } : State).Legal :=
  { h with mem := Memory.wf_write h.mem a v }

theorem place_ram {s : State} {a : Addr} {n : Nat} (h : place s a = .ram n) : n < 0xFFEE0 ∧ s.cfg.ramBase ≤ n := by
  unfold place at h
  dsimp only at h
  split_ifs at h
  · split at h <;> cases h
  · cases h
    rename_i h1 h2 h3
    simp [inRam] at h2
    omega

/-- A byte stored at a data address. -/
theorem writeByte_spec {s : State} (h : s.Legal) {v : Byte} {a : Addr} (hw : ByteWritable s v a) :
    ∃ t, writeByte s a v = .ok t
      ∧ Changes s t (fun x => if byteCell s a = some x then some v else none)
          (fun r => if byteCpu s a = some r then some (implemented s.cfg.core r v) else none)
          (byteEvent s a (fun n => .write8 n v))
      ∧ Follows s t ∧ Quiet s t ∧ t.Legal := by
  unfold ByteWritable at hw
  unfold writeByte byteCell byteCpu byteEvent
  cases hp : place s a with
  | device n =>
    refine ⟨_, rfl, ?_, ⟨rfl, rfl⟩, ⟨rfl, rfl⟩, h.logAll [.write8 n v]⟩
    exact (Changes.logAll s [.write8 n v]).congr (by simp [unchanged]) (by simp [unchanged]) rfl
  | cpu r =>
    rw [hp] at hw
    obtain ⟨t, ht, hc, hf, hq, hl⟩ := writeCpu_spec h r v hw
    refine ⟨t, ht, hc.congr (by simp [unchanged]) (fun q => ?_) rfl, hf, hq, hl⟩
    by_cases e : q = r
    · subst e; simp
    · simp [e, Ne.symm e]
  | gpr n r =>
    have e : byteCell s a = some (regAddr n r) := by simp [byteCell, hp]
    refine ⟨_, rfl, ⟨fun x => ?_, fun q => ?_, by simp, by simp, by simp, by simp, by simp, by simp, by simp⟩,
      ⟨by simp, by simp⟩, ⟨by simp, by simp⟩, h.withBank _ _⟩
    · rw [cell_withBank_set]
      by_cases hx : regAddr n r = x <;> simp [hx]
    · cases q <;> simp [State.readCpu]
  | ram n =>
    obtain ⟨h1, h2⟩ := place_ram hp
    refine ⟨_, rfl, ⟨fun x => ?_, fun q => ?_, by simp, rfl, rfl, rfl, by simp, rfl, rfl⟩,
      ⟨rfl, rfl⟩, ⟨rfl, rfl⟩, h.withMem _ _⟩
    · rw [cell_mem_write h.mem _ _ (Or.inl h1)]
      by_cases hx : n = x <;> simp [hx]
    · cases q <;> simp [State.readCpu]
  | dataFlash n => rw [hp] at hw; exact hw.elim
  | mirror m n => rw [hp] at hw; exact hw.elim
  | codeFlash n => rw [hp] at hw; exact hw.elim
  | unusable => rw [hp] at hw; exact hw.elim

/-! ## Words -/

theorem evenAddr_toNat (a : Addr) : (evenAddr a).toNat = 2 * (a.toNat / 2) := by
  have e : evenAddr a = a &&& BitVec.ofNat 20 0xFFFFE := rfl
  have h1 : a &&& BitVec.ofNat 20 0xFFFFE = (a >>> 1) <<< 1 := by
    apply BitVec.eq_of_getLsbD_eq
    intro i hi
    interval_cases i <;> simp
  rw [e, h1, BitVec.toNat_shiftLeft, BitVec.toNat_ushiftRight, Nat.shiftRight_eq_div_pow, Nat.shiftLeft_eq]
  have := a.isLt
  omega

theorem oddAddr_toNat (a : Addr) : (evenAddr a + 1).toNat = 2 * (a.toNat / 2) + 1 := by
  have := a.isLt
  rw [BitVec.toNat_add, evenAddr_toNat]
  simp
  omega

/-- A storage byte that a store reaches is the byte of that address. -/
theorem byteCell_toNat {s : State} {a : Addr} {n : Nat} (h : byteCell s a = some n) : n = a.toNat := by
  unfold byteCell place at h
  dsimp only at h
  split_ifs at h
  · split at h
    · rename_i h' ; split at h' <;> cases h'
    · rename_i h' ; split at h' <;> cases h'
    · cases h
  · simpa using h.symm
  · rename_i h1 h2 h3 h4
    simp only [inRam, Bool.and_eq_true, decide_eq_true_eq] at h2
    simp only [Option.some.injEq] at h
    rw [← h, regAddr_at (by omega) (by omega)]

theorem byteCpu_range {s : State} {a : Addr} {r : CpuSfr} (h : byteCpu s a = some r) :
    0xFFF00 ≤ a.toNat ∧ cpuSfrAt s.cfg.core a.toNat = some r := by
  unfold byteCpu place at h
  dsimp only at h
  split_ifs at h
  refine ⟨by assumption, ?_⟩
  cases hc : cpuSfrAt s.cfg.core a.toNat with
  | none => rw [hc] at h; simp at h
  | some q => rw [hc] at h; simpa using h

/-- The SFR address of a CPU register byte (10_state.md R33, R34). -/
def CpuSfr.addr : CpuSfr → Nat
  | .spl => 0xFFFF8 | .sph => 0xFFFF9 | .psw => 0xFFFFA | .cs => 0xFFFFC | .es => 0xFFFFD | .pmc => 0xFFFFE
  | .macr k => 0xFFFF0 + k.val

theorem cpuSfrAt_addr {c : CpuCore} {a : Nat} {r : CpuSfr} (h : cpuSfrAt c a = some r) : a = r.addr := by
  unfold cpuSfrAt at h
  split at h
  · cases h; assumption
  split at h
  · cases h; assumption
  split at h
  · cases h; assumption
  split at h
  · cases h; assumption
  split at h
  · cases h; assumption
  split at h
  · cases h; assumption
  split at h
  · cases h
    simp only [CpuSfr.addr, Fin.ofNat]
    omega
  · cases h

/-- In SFR space a place depends on the parameters alone. -/
theorem place_high {s t : State} (hc : t.cfg = s.cfg) {a : Addr} (ha : 0xFFF00 ≤ a.toNat) : place t a = place s a := by
  simp only [place, ha, if_true, hc]

/-- The storage bytes of a word at a data address. -/
def wordCells (s : State) (a : Addr) (v : Word) : Nat → Option Byte :=
  eitherByte (byteCell s (evenAddr a)) (byteCell s (evenAddr a + 1)) v

/-- The CPU register bytes of a word at a data address. -/
def wordCpu (s : State) (a : Addr) (v : Word) (r : CpuSfr) : Option Byte :=
  if byteCpu s (evenAddr a) = some r then some (implemented s.cfg.core r (lowByte v))
  else if byteCpu s (evenAddr a + 1) = some r then some (implemented s.cfg.core r (highByte v))
  else none

/-- The events of a word stored at a data address. -/
def wordEvents (s : State) (a : Addr) (v : Word) : List DevEvent :=
  match deviceWord s a with
  | some n => [.write16 n v]
  | none => byteEvent s (evenAddr a) (fun n => .write8 n (lowByte v))
      ++ byteEvent s (evenAddr a + 1) (fun n => .write8 n (highByte v))

/-- A word stored at a data address: the low byte at the even address, the high byte next. -/
theorem writeWord_spec {s : State} (h : s.Legal) {v : Word} {a : Addr}
    (hlo : ByteWritable s (lowByte v) (evenAddr a)) (hhi : ByteWritable s (highByte v) (evenAddr a + 1)) :
    ∃ t, writeWord s a v = .ok t ∧ Changes s t (wordCells s a v) (wordCpu s a v) (wordEvents s a v)
      ∧ Follows s t ∧ Quiet s t ∧ t.Legal := by
  have hne : (evenAddr a).toNat ≠ (evenAddr a + 1).toNat := by rw [evenAddr_toNat, oddAddr_toNat]; omega
  unfold writeWord wordEvents
  cases hd : deviceWord s a with
  | some n =>
    refine ⟨_, rfl, (Changes.logAll s [.write16 n v]).congr ?_ ?_ rfl, ⟨rfl, rfl⟩, ⟨rfl, rfl⟩, h.logAll [.write16 n v]⟩
    all_goals
      unfold deviceWord at hd
      split at hd
      · rename_i h1 h2
        simp only [unchanged, wordCells, wordCpu, eitherByte, byteCell, byteCpu, h1, h2, reduceCtorEq, if_false,
          implies_true]
      · cases hd
  | none =>
    obtain ⟨t, ht, hc, hf, hq, hl⟩ := writeByte_spec h hlo
    have hp : place t (evenAddr a + 1) = place s (evenAddr a + 1) := by
      by_cases hb : byteCpu s (evenAddr a) = some .pmc
      · apply place_high hc.cfg
        have := (byteCpu_range hb).1
        rw [evenAddr_toNat] at this
        rw [oddAddr_toNat]; omega
      · have e := hc.control .pmc
        have d := hc.pmcDelay
        rw [if_neg hb] at e d
        exact place_congr hc.cfg e d _
    have hw2 : ByteWritable t (highByte v) (evenAddr a + 1) := by
      unfold ByteWritable at hhi ⊢
      rw [hp, hc.cfg]; exact hhi
    obtain ⟨u, hu, kc, kf, kq, kl⟩ := writeByte_spec hl hw2
    have b1 : byteCell t (evenAddr a + 1) = byteCell s (evenAddr a + 1) := by simp only [byteCell, hp]
    have b2 : byteCpu t (evenAddr a + 1) = byteCpu s (evenAddr a + 1) := by simp only [byteCpu, hp]
    have b3 (f : Nat → DevEvent) : byteEvent t (evenAddr a + 1) f = byteEvent s (evenAddr a + 1) f := by
      simp only [byteEvent, hp]
    rw [b1, b2, b3, hc.cfg] at kc
    refine ⟨u, ?_, (hc.trans kc).congr (fun x => ?_) (fun r => ?_) rfl, ?_, ?_, kl⟩
    · rw [ht]; exact hu
    · unfold wordCells eitherByte
      by_cases h1 : byteCell s (evenAddr a) = some x
      · have h2 : byteCell s (evenAddr a + 1) ≠ some x := fun h2 => hne (by
          rw [← byteCell_toNat h1, ← byteCell_toNat h2])
        rw [if_neg h2, if_pos h1, Option.none_or]
      · rw [if_neg h1, if_neg h1, Option.or_none]
    · unfold wordCpu
      by_cases h1 : byteCpu s (evenAddr a) = some r
      · have h2 : byteCpu s (evenAddr a + 1) ≠ some r := fun h2 => hne (by
          rw [cpuSfrAt_addr (byteCpu_range h1).2, cpuSfrAt_addr (byteCpu_range h2).2])
        rw [if_neg h2, if_pos h1, Option.none_or]
      · rw [if_neg h1, if_neg h1, Option.or_none]
    · exact ⟨kf.1.trans hf.1, kf.2.trans hf.2⟩
    · exact ⟨kq.1.trans hq.1, kq.2.trans hq.2⟩

/-! ## Operands -/

theorem Changes.of_logAll {s t : State} {e f : List DevEvent} {c : Nat → Option Byte} {k : CpuSfr → Option Byte}
    (h : Changes (s.logAll e) t c k f ∧ Follows (s.logAll e) t ∧ Quiet (s.logAll e) t ∧ t.Legal) :
    Changes s t c k (e ++ f) ∧ Follows s t ∧ Quiet s t ∧ t.Legal :=
  ⟨h.1.after_log, h.2.1, h.2.2.1, h.2.2.2⟩

/-- A register written. -/
theorem setReg_changes {s : State} (h : s.Legal) (r : Reg) (v : Byte) :
    Changes s (s.setReg r v) (stored8 s v (.reg r)) unchanged [] ∧ Follows s (s.setReg r v) ∧ Quiet s (s.setReg r v)
      ∧ (s.setReg r v).Legal := by
  refine ⟨⟨fun x => ?_, fun q => ?_, by simp, by simp, by simp, by simp, by simp [unchanged], by simp, by simp⟩,
    ⟨by simp, by simp⟩, ⟨by simp, by simp⟩, h.withBank _ _⟩
  · unfold State.setReg
    rw [cell_withBank_set]
    simp only [stored8, eq_comm (a := x)]
    split <;> rfl
  · cases q <;> simp [State.readCpu, unchanged]

/-- A pair written: its low register and its high register. -/
theorem setPair_changes {s : State} (h : s.Legal) (p : RegPair) (v : Word) :
    Changes s (s.setPair p v) (stored16 s v (.pair p)) unchanged [] ∧ Follows s (s.setPair p v)
      ∧ Quiet s (s.setPair p v) ∧ (s.setPair p v).Legal := by
  obtain ⟨c1, f1, q1, l1⟩ := setReg_changes h p.high (highByte v)
  obtain ⟨c2, f2, q2, l2⟩ := setReg_changes l1 p.low (lowByte v)
  refine ⟨(c1.trans c2).congr (fun x => ?_) (fun _ => rfl) rfl, ⟨f2.1.trans f1.1, f2.2.trans f1.2⟩,
    ⟨q2.1.trans q1.1, q2.2.trans q1.2⟩, l2⟩
  have hr : (s.setReg p.high (highByte v)).rbs = s.rbs := by simp [State.setReg]
  simp only [stored8, stored16, eitherByte, hr, Option.some.injEq, eq_comm (a := x)]
  split <;> simp

theorem stackPlace_ram {c : Config} {off : Word} {n : Nat} (h : stackPlace c off = .ram n) :
    n < 0xFFEE0 ∧ n = 0xF0000 + off.toNat := by
  unfold stackPlace at h
  dsimp only at h
  split_ifs at h
  cases h
  exact ⟨by assumption, rfl⟩

/-- A stack byte written. -/
theorem stackWrite_spec {s : State} (h : s.Legal) {off : Word} (v : Byte) (hw : StackUsable s.cfg off) :
    ∃ t, stackWrite s off v = .ok t
      ∧ Changes s t (fun x => if stackCell s.cfg off = some x then some v else none) unchanged []
      ∧ Follows s t ∧ Quiet s t ∧ t.Legal := by
  unfold StackUsable at hw
  unfold stackWrite stackCell
  cases hp : stackPlace s.cfg off with
  | ram n =>
    refine ⟨_, rfl, ⟨fun x => ?_, fun q => ?_, by simp, rfl, rfl, rfl, by simp [unchanged], rfl, rfl⟩,
      ⟨rfl, rfl⟩, ⟨rfl, rfl⟩, h.withMem _ _⟩
    · rw [cell_mem_write h.mem _ _ (Or.inl (stackPlace_ram hp).1)]
      by_cases hx : n = x <;> simp [hx]
    · cases q <;> simp [State.readCpu, unchanged]
  | registers => exact absurd hp hw
  | outside n =>
    exact ⟨s, rfl, (Changes.refl s).congr (by simp [unchanged]) (fun _ => rfl) rfl, ⟨rfl, rfl⟩, ⟨rfl, rfl⟩, h⟩

theorem Config.ramBase_even {c : Config} (h : c.wf = true) : c.ramBase % 2 = 0 := by
  simp only [Config.wf, Bool.and_eq_true, beq_iff_eq] at h
  tauto

/-- The odd byte of a stack word follows the even one. -/
theorem odd_toNat {off : Word} (he : off &&& 1 = 0) : off.toNat % 2 = 0 ∧ (off + 1).toNat = off.toNat + 1 := by
  have h0 := getLsbD_zero_of_even he
  have h1 : off.toNat % 2 = 0 := by
    have := BitVec.getElem_eq_testBit_toNat off 0 (by decide)
    rw [h0] at this
    simp [Nat.testBit_zero] at this
    omega
  have := off.isLt
  refine ⟨h1, ?_⟩
  rw [BitVec.toNat_add]
  simp
  omega

/-- The two bytes of an even stack word lie in one area. -/
theorem StackUsable.odd {c : Config} {off : Word} (hc : c.wf = true) (he : off &&& 1 = 0) (h : StackUsable c off) :
    StackUsable c (off + 1) := by
  obtain ⟨h1, h2⟩ := odd_toNat he
  have hr := Config.ramBase_even hc
  unfold StackUsable stackPlace at *
  simp only [h2, inRam, Bool.and_eq_true, decide_eq_true_eq] at *
  split_ifs at * <;> first
    | omega
    | (simp_all; done)
    | (simp_all; omega)

/-- A stack word written. -/
theorem stackWriteWord_spec {s : State} (h : s.Legal) {off : Word} (v : Word) (he : off &&& 1 = 0)
    (hw : StackUsable s.cfg off) :
    ∃ t, stackWriteWord s off (highByte v) (lowByte v) = .ok t
      ∧ Changes s t (eitherByte (stackCell s.cfg off) (stackCell s.cfg (off + 1)) v) unchanged []
      ∧ Follows s t ∧ Quiet s t ∧ t.Legal := by
  obtain ⟨t, ht, c1, f1, q1, l1⟩ := stackWrite_spec h (highByte v) (hw.odd h.cfg he)
  obtain ⟨u, hu, c2, f2, q2, l2⟩ := stackWrite_spec l1 (off := off) (lowByte v) (c1.cfg ▸ hw)
  refine ⟨u, ?_, (c1.trans c2).congr (fun x => ?_) (fun _ => rfl) rfl, ⟨f2.1.trans f1.1, f2.2.trans f1.2⟩,
    ⟨q2.1.trans q1.1, q2.2.trans q1.2⟩, l2⟩
  · unfold stackWriteWord
    rw [ht]; exact hu
  · rw [c1.cfg]
    unfold eitherByte
    split <;> rfl

/-- An 8-bit operand written, after some events. -/
theorem Loc8.write_spec {s : State} (h : s.Legal) {v : Byte} {l : Loc8} (hw : Writable8 s v l) (e : List DevEvent) :
    ∃ t, l.write (s.logAll e) v = .ok t ∧ Changes s t (stored8 s v l) (storedCpu8 s v l) (e ++ writeEvents8 s v l)
      ∧ Follows s t ∧ Quiet s t ∧ t.Legal := by
  cases l with
  | reg r => exact ⟨_, rfl, Changes.of_logAll (setReg_changes (h.logAll e) r v)⟩
  | mem m =>
    unfold stored8 storedCpu8
    simp only [Loc8.write, memAddr_logAll, Writable8, writeEvents8] at hw ⊢
    cases hm : memAddr s m with
    | error x => rw [hm] at hw; exact hw.elim
    | ok ea =>
      rw [hm] at hw
      cases ea with
      | data a =>
        obtain ⟨t, ht, k⟩ := writeByte_spec (h.logAll e) (v := v) (a := a) hw
        exact ⟨t, ht, Changes.of_logAll k⟩
      | stack off =>
        obtain ⟨t, ht, k⟩ := stackWrite_spec (h.logAll e) v hw
        exact ⟨t, ht, Changes.of_logAll k⟩

/-- A 16-bit operand written, after some events. -/
theorem Loc16.write_spec {s : State} (h : s.Legal) {v : Word} {l : Loc16} (hw : Writable16 s v l) (e : List DevEvent) :
    ∃ t, l.write (s.logAll e) v = .ok t ∧ Changes s t (stored16 s v l) (storedCpu16 s v l) (e ++ writeEvents16 s v l)
      ∧ Follows s t ∧ Quiet s t ∧ t.Legal := by
  cases l with
  | pair p => exact ⟨_, rfl, Changes.of_logAll (setPair_changes (h.logAll e) p v)⟩
  | mem m =>
    unfold stored16 storedCpu16
    simp only [Loc16.write, memAddr_logAll, Writable16, writeEvents16] at hw ⊢
    cases hm : memAddr s m with
    | error x => rw [hm] at hw; exact hw.elim
    | ok ea =>
      rw [hm] at hw
      cases ea with
      | data a =>
        obtain ⟨t, ht, k⟩ := writeWord_spec (h.logAll e) hw.1 hw.2
        exact ⟨t, ht, Changes.of_logAll k⟩
      | stack off =>
        obtain ⟨t, ht, k⟩ := stackWriteWord_spec (h.logAll e) v (even_of_masked off) hw
        exact ⟨t, ht, Changes.of_logAll k⟩

end Sys2Proof.Machine
end

