-- ==== Sys2Proof/Laws/Stack.lean ====
section
/-!
SUPPORT. Everything a push, a frame, a return, an exception and a taken branch can do, said once.
-/

namespace Sys2Proof.Machine

theorem sp_even_iff (w : Word) : w &&& 1 = 0 ↔ w.toNat % 2 = 0 := by
  rw [← BitVec.toNat_inj, BitVec.toNat_and]
  have e : BitVec.toNat (1 : Word) = 2 ^ 1 - 1 := rfl
  rw [e, Nat.and_two_pow_sub_one_eq_mod]
  simp

theorem sp_even_sub_two {w : Word} (h : w &&& 1 = 0) : (w - 2) &&& 1 = 0 := by
  rw [sp_even_iff] at *
  bv_omega

theorem sp_even_sub_four {w : Word} (h : w &&& 1 = 0) : (w - 4) &&& 1 = 0 := by
  rw [sp_even_iff] at *
  bv_omega

theorem sp_even_add_two {w : Word} (h : w &&& 1 = 0) : (w + 2) &&& 1 = 0 := by
  rw [sp_even_iff] at *
  bv_omega

theorem sp_even_add_four {w : Word} (h : w &&& 1 = 0) : (w + 4) &&& 1 = 0 := by
  rw [sp_even_iff] at *
  bv_omega

/-- SP written with an even value. -/
theorem setSp_changes {s : State} (h : s.Legal) {v : Word} (he : v &&& 1 = 0) :
    Changes s (s.setSp v) unchanged (onlySp v) [] ∧ Follows s (s.setSp v) ∧ Quiet s (s.setSp v)
      ∧ (s.setSp v).Legal ∧ (s.setSp v).sp = v := by
  have e : v &&& 0xFFFE = v := masked_of_even he
  refine ⟨⟨fun x => cell_congr rfl (fun n => by cases n <;> rfl) x, fun q => ?_, by simp, rfl, rfl, rfl,
    by simp [onlySp], rfl, rfl⟩, ⟨rfl, rfl⟩, ⟨rfl, rfl⟩, { h with sp := even_of_masked v }, e⟩
  unfold State.setSp
  rw [e]
  cases q <;> simp [State.readCpu, onlySp]

/-- SP written with any value: bit 0 is made 0. -/
theorem setSp_mask (s : State) (v : Word) : s.setSp (v &&& 0xFFFE) = s.setSp v := by
  simp [State.setSp, BitVec.and_assoc]

/-- Two bytes pushed. -/
theorem push_spec {s : State} (h : s.Legal) (v : Word) (hw : StackUsable s.cfg (s.sp - 2)) :
    ∃ t, push s (highByte v) (lowByte v) = .ok t ∧ Changes s t (pushCells s v) (onlySp (s.sp - 2)) []
      ∧ Follows s t ∧ Quiet s t ∧ t.Legal := by
  obtain ⟨t, ht, c1, f1, q1, l1⟩ := stackWriteWord_spec h v (sp_even_sub_two h.sp) hw
  obtain ⟨c2, f2, q2, l2, -⟩ := setSp_changes l1 (sp_even_sub_two h.sp)
  refine ⟨_, ?_, (c1.trans c2).congr (fun x => ?_) (fun r => ?_) rfl, ⟨f2.1.trans f1.1, f2.2.trans f1.2⟩,
    ⟨q2.1.trans q1.1, q2.2.trans q1.2⟩, l2⟩
  · unfold push
    rw [ht]; rfl
  · have e : s.sp - 2 + 1 = s.sp - 1 := by bv_omega
    rw [pushCells, e]; rfl
  · simp [unchanged]

/-- The bytes of a return address, as a frame holds them. -/
theorem ret_low (ret : Addr) : wordOf (ret.extractLsb' 8 8) (ret.extractLsb' 0 8) = BitVec.ofNat 16 ret.toNat := by
  apply BitVec.eq_of_toNat_eq
  rw [wordOf_toNat]
  have := ret.isLt
  simp [Nat.shiftRight_eq_div_pow]
  omega

theorem ret_high (ret : Addr) : (0#4 ++ ret.extractLsb' 16 4 : Byte) = BitVec.ofNat 8 (ret.toNat / 65536) := by
  apply BitVec.eq_of_toNat_eq
  have := ret.isLt
  rw [BitVec.toNat_append]
  simp [Nat.shiftRight_eq_div_pow]
  omega

theorem stackCell_toNat {c : Config} {off : Word} {x : Nat} (h : stackCell c off = some x) : x = 0xF0000 + off.toNat := by
  unfold stackCell at h
  cases hp : stackPlace c off with
  | ram n => rw [hp] at h; cases h; exact (stackPlace_ram hp).2
  | registers => rw [hp] at h; cases h
  | outside n => rw [hp] at h; cases h

/-- Two stack words at different offsets are different bytes. -/
theorem stackWords_comm {c : Config} {a b a' b' : Word} (h1 : a ≠ a') (h2 : a ≠ b') (h3 : b ≠ a') (h4 : b ≠ b')
    (v w : Word) (x : Nat) :
    (eitherByte (stackCell c a) (stackCell c b) v x).or (eitherByte (stackCell c a') (stackCell c b') w x)
      = (eitherByte (stackCell c a') (stackCell c b') w x).or (eitherByte (stackCell c a) (stackCell c b) v x) := by
  have key (p q : Word) (hp : stackCell c p = some x) (hq : stackCell c q = some x) : p = q := by
    have e1 := stackCell_toNat hp
    have e2 := stackCell_toNat hq
    exact BitVec.eq_of_toNat_eq (by omega)
  unfold eitherByte
  by_cases k1 : stackCell c a = some x
  · have n1 : stackCell c a' ≠ some x := fun k => h1 (key _ _ k1 k)
    have n2 : stackCell c b' ≠ some x := fun k => h2 (key _ _ k1 k)
    simp [k1, n1, n2]
  · by_cases k2 : stackCell c b = some x
    · have n1 : stackCell c a' ≠ some x := fun k => h3 (key _ _ k2 k)
      have n2 : stackCell c b' ≠ some x := fun k => h4 (key _ _ k2 k)
      simp [k1, k2, n1, n2]
    · simp [k1, k2]

/-- A frame pushed. -/
theorem pushFrame_spec {s : State} (h : s.Legal) (top : Byte) (ret : Addr) (hw : FrameUsable s) :
    ∃ t, pushFrame s top ret = .ok t ∧ Changes s t (frameCells s top ret) (onlySp (s.sp - 4)) []
      ∧ Follows s t ∧ Quiet s t ∧ t.Legal := by
  obtain ⟨t, ht, c1, f1, q1, l1⟩ :=
    stackWriteWord_spec h (wordOf top (BitVec.ofNat 8 (ret.toNat / 65536))) (sp_even_sub_two h.sp) hw.1
  obtain ⟨u, hu, c2, f2, q2, l2⟩ :=
    stackWriteWord_spec l1 (off := s.sp - 4) (BitVec.ofNat 16 ret.toNat) (sp_even_sub_four h.sp) (c1.cfg ▸ hw.2)
  obtain ⟨c3, f3, q3, l3, -⟩ := setSp_changes l2 (sp_even_sub_four h.sp)
  refine ⟨u.setSp (s.sp - 4), ?_, ((c1.trans c2).trans c3).congr (fun x => ?_) (fun r => ?_) rfl,
    ⟨f3.1.trans (f2.1.trans f1.1), f3.2.trans (f2.2.trans f1.2)⟩,
    ⟨q3.1.trans (q2.1.trans q1.1), q3.2.trans (q2.2.trans q1.2)⟩, l3⟩
  · unfold pushFrame
    rw [highByte_wordOf, lowByte_wordOf] at ht
    rw [← ret_low, highByte_wordOf, lowByte_wordOf] at hu
    rw [ret_high, ht]
    show (stackWriteWord t _ _ _ >>= _) = _
    rw [hu]; rfl
  · have e : s.sp - 2 + 1 = s.sp - 1 := by bv_omega
    have e' : s.sp - 4 + 1 = s.sp - 3 := by bv_omega
    have k := stackWords_comm (c := s.cfg) (a := s.sp - 2) (b := s.sp - 1) (a' := s.sp - 4) (b' := s.sp - 3)
      (by bv_omega) (by bv_omega) (by bv_omega) (by bv_omega) (wordOf top (BitVec.ofNat 8 (ret.toNat / 65536)))
      (BitVec.ofNat 16 ret.toNat) x
    rw [frameCells, pushCells, k, e, e', c1.cfg]
    rfl
  · simp [unchanged]

/-! ## Control transfers -/

/-- A jump. -/
theorem jump_changes {s : State} (h : s.Legal) (target : Addr) :
    Changes s (jump s target) unchanged unchanged [] ∧ JumpsTo (jump s target) target ∧ Quiet s (jump s target)
      ∧ (jump s target).Legal :=
  ⟨⟨fun x => cell_congr rfl (fun n => by cases n <;> rfl) x, fun q => by cases q <;> rfl, by simp, rfl, rfl, rfl,
    by simp [unchanged], rfl, rfl⟩, ⟨rfl, rfl⟩, ⟨rfl, rfl⟩, { h with queue := h.mem }⟩

/-- Changes, then a jump. -/
theorem Changes.jump {s t : State} {c : Nat → Option Byte} {k : CpuSfr → Option Byte} {e : List DevEvent}
    (h : Changes s t c k e) (hl : t.Legal) (target : Addr) : Changes s (jump t target) c k e :=
  (h.trans (jump_changes hl target).1).congr (fun _ => rfl) (fun _ => rfl) (by simp)

/-- A call. -/
theorem call_spec {s : State} (h : s.Legal) (target : Addr) (hw : FrameUsable s) :
    ∃ t, call s target = .ok t ∧ Changes s t (frameCells s 0 s.pc) (onlySp (s.sp - 4)) []
      ∧ JumpsTo t target ∧ Quiet s t ∧ t.Legal := by
  obtain ⟨t, ht, c, f, q, l⟩ := pushFrame_spec h 0x00 s.pc hw
  refine ⟨Machine.jump t target, ?_, c.jump l target, ⟨rfl, rfl⟩, q, (jump_changes l target).2.2.2⟩
  unfold call
  rw [ht]; rfl

theorem sext8_eq (d : Byte) : sext8 d = BitVec.ofInt 20 d.toInt := rfl

theorem sext16_eq (d : Word) : sext16 d = BitVec.ofInt 20 d.toInt := rfl

/-- The target of a relative transfer. -/
theorem relTarget_eq (s : State) (n : Int) : s.pc + BitVec.ofInt 20 n = relTarget s n := by
  unfold relTarget
  rw [BitVec.ofInt_add, BitVec.ofInt_natCast, BitVec.ofNat_toNat, BitVec.setWidth_eq]

/-- A relative transfer inside what R361 allows. -/
theorem jumpRelative_spec {s : State} {n : Int} (h : BranchAllowed s n) :
    jumpRelative s (BitVec.ofInt 20 n) = .ok (jump s (relTarget s n)) := by
  unfold jumpRelative
  rw [relTarget_eq, if_neg]
  rintro ⟨h1, h2⟩
  rw [h h1] at h2
  cases h2

/-- A relative transfer out of RAM. -/
theorem jumpRelative_refused {s : State} {n : Int} (h : ¬ BranchAllowed s n) :
    jumpRelative s (BitVec.ofInt 20 n) = .error (.refused .relativeBranchFromRam) := by
  unfold BranchAllowed at h
  unfold jumpRelative
  rw [relTarget_eq, if_pos]
  simpa using h

/-- The target of a register transfer. -/
theorem addrOf_toNat (g : BitVec 4) (w : Word) : (addrOf g w).toNat = 65536 * g.toNat + w.toNat := by
  have := w.isLt
  rw [addrOf, BitVec.toNat_append, ← Nat.shiftLeft_add_eq_or_of_lt w.isLt, Nat.shiftLeft_eq]
  omega

theorem registerTarget_toNat (s : State) (p : RegPair) :
    (registerTarget s p).toNat = 65536 * (s.cs.toNat % 16) + (s.pair p).toNat := by
  rw [registerTarget, addrOf_toNat]
  simp

theorem tableTarget_toNat (s : State) (a : Nat) :
    (tableTarget s a).toNat = (s.mem.read a).toNat + 256 * (s.mem.read (a + 1)).toNat := by
  rw [tableTarget, addrOf_toNat, programWord, wordOf_toNat]
  simp

/-! ## Returns and exceptions -/

/-- The return address in a frame. -/
theorem frameAddr_spec {s : State} {b0 b1 b2 : Byte} (h0 : stackRead s s.sp = .ok b0)
    (h1 : stackRead s (s.sp + 1) = .ok b1) (h2 : stackRead s (s.sp + 2) = .ok b2) :
    ∃ a, frameAddr s = .ok a ∧ a.toNat = b0.toNat + 256 * b1.toNat + 65536 * (b2.toNat % 16) := by
  refine ⟨addrOf (b2.extractLsb' 0 4) (wordOf b1 b0), ?_, ?_⟩
  · unfold frameAddr
    rw [h0, h1, h2]; rfl
  · rw [addrOf_toNat, wordOf_toNat]
    simp
    omega

/-- A return from a subroutine. -/
theorem returnFromCall_spec {s : State} (h : s.Legal) {b0 b1 b2 : Byte} (h0 : stackRead s s.sp = .ok b0)
    (h1 : stackRead s (s.sp + 1) = .ok b1) (h2 : stackRead s (s.sp + 2) = .ok b2) :
    ∃ t target, returnFromCall s = .ok t ∧ target.toNat = b0.toNat + 256 * b1.toNat + 65536 * (b2.toNat % 16)
      ∧ Changes s t unchanged (onlySp (s.sp + 4)) [] ∧ JumpsTo t target ∧ Quiet s t ∧ t.Legal := by
  obtain ⟨a, ha, e⟩ := frameAddr_spec h0 h1 h2
  obtain ⟨c, f, q, l, -⟩ := setSp_changes h (sp_even_add_four h.sp)
  refine ⟨Machine.jump (s.setSp (s.sp + 4)) a, a, ?_, e, c.jump l a, ⟨rfl, rfl⟩, q, (jump_changes l a).2.2.2⟩
  unfold returnFromCall
  rw [ha]; rfl

/-- PSW written as a whole. -/
theorem writePsw_changes {s : State} (h : s.Legal) (v : Byte) :
    Changes s (s.writePsw v) unchanged
        (fun r => if r = .psw then some (if s.cfg.core = .s1 then v &&& 0xD7 else v) else none) []
      ∧ Follows s (s.writePsw v) ∧ Quiet s (s.writePsw v) ∧ (s.writePsw v).Legal := by
  obtain ⟨t, ht, c, f, q, l⟩ := writeCpu_spec h .psw v (by simp)
  cases ht
  refine ⟨c.congr (fun _ => rfl) (fun r => ?_) rfl, f, q, l⟩
  by_cases hr : r = .psw
  · subst hr; rfl
  · rw [if_neg hr, if_neg hr]

/-- An inhibit window opened. -/
theorem holdInterrupts_changes (s : State) :
    Changes s (holdInterrupts s) unchanged unchanged [] ∧ Follows s (holdInterrupts s) ∧ Inhibits s (holdInterrupts s) :=
  ⟨⟨fun x => cell_congr rfl (fun n => by cases n <;> rfl) x, fun q => by cases q <;> rfl, by simp [holdInterrupts], rfl,
    rfl, rfl, by simp [unchanged, holdInterrupts], rfl, rfl⟩, ⟨rfl, rfl⟩, ⟨rfl, rfl⟩⟩

/-- In run mode an inhibit window leaves a legal state legal. -/
theorem State.Legal.holdInterrupts {s : State} (h : s.Legal) (hm : s.mode = .run) : (holdInterrupts s).Legal :=
  { h with skip := fun _ => rfl, standby := fun hr => absurd hm hr }

end Sys2Proof.Machine
end

