-- ==== Sys2Proof/Laws/Actions.lean ====
section
/-!
SUPPORT. Everything each shared meaning of Machine/Actions.lean can do when its operands can be read and written.
-/

namespace Sys2Proof.Machine

/-- A result with exactly these changes, the next instruction following, no window opened. -/
def Gives (r : Result) (s : State) (cells : Nat → Option Byte) (ctl : CpuSfr → Option Byte) (events : List DevEvent) :
    Prop :=
  ∃ t, r = .ok t ∧ Changes s t cells ctl events ∧ Follows s t ∧ Quiet s t ∧ t.Legal

theorem Gives.completes {i : Instr} {r : Result} {s : State} {c : Nat → Option Byte} {k : CpuSfr → Option Byte}
    {e : List DevEvent} (h : Gives r s c k e) (he : exec i s = finish r) : Completes i s c k e := by
  obtain ⟨t, ht, hc, hf, hq, -⟩ := h
  exact ⟨t, by rw [he, ht]; rfl, hc, hf, hq⟩

theorem Gives.congr {r : Result} {s : State} {c d : Nat → Option Byte} {k l : CpuSfr → Option Byte}
    {e f : List DevEvent} (h : Gives r s c k e) (hc : ∀ x, c x = d x) (hk : ∀ q, k q = l q) (he : e = f) :
    Gives r s d l f := by
  obtain ⟨t, ht, h1, h2⟩ := h
  exact ⟨t, ht, h1.congr hc hk he, h2⟩

/-- PSW replaced, on S1 with bits 5 and 3 still 0. -/
theorem State.Legal.withPsw {s : State} (h : s.Legal) {p : Psw}
    (hp : s.cfg.core = .s1 → p.rbs1 = false ∧ p.rbs0 = false) : ({ s with psw := p } : State).Legal :=
  { h with psw := hp }

/-- Flags set from what was written. -/
theorem Gives.thenPsw {r : Result} {s : State} {c : Nat → Option Byte} {k : CpuSfr → Option Byte} {e : List DevEvent}
    (h : Gives r s c k e) (f : Psw → Psw) (hf : ∀ p, (f p).rbs1 = p.rbs1 ∧ (f p).rbs0 = p.rbs0) :
    Gives (r.map fun t => { t with psw := f t.psw }) s c
      (fun q => if q = .psw
        then some (f (match k .psw with | some b => Psw.ofByte b | none => s.psw)).toByte else k q) e := by
  obtain ⟨t, ht, hc, hfo, hq, hl⟩ := h
  refine ⟨{ t with psw := f t.psw }, by rw [ht]; rfl, ?_, hfo, hq, hl.withPsw fun h1 => ?_⟩
  · have e : t.psw = (match k .psw with | some b => Psw.ofByte b | none => s.psw) := hc.psw_eq
    rw [← e]
    exact hc.withPsw _
  · have := hl.psw h1
    rw [(hf t.psw).1, (hf t.psw).2]
    exact this

theorem move8_spec {s : State} (h : s.Legal) {dst : Loc8} {src : Src8} {v : Byte} (hv : src.value s = .ok v)
    (hw : Writable8 s v dst) :
    Gives (move8 dst src s) s (stored8 s v dst) (storedCpu8 s v dst) (sourceEvents8 s src ++ writeEvents8 s v dst) := by
  obtain ⟨t, ht, k⟩ := Loc8.write_spec h hw (sourceEvents8 s src)
  refine ⟨t, ?_, k⟩
  unfold move8
  rw [hv, Src8.touched_eq]
  exact ht

theorem move16_spec {s : State} (h : s.Legal) {dst : Loc16} {src : Src16} {v : Word} (hv : src.value s = .ok v)
    (hw : Writable16 s v dst) :
    Gives (move16 dst src s) s (stored16 s v dst) (storedCpu16 s v dst)
      (sourceEvents16 s src ++ writeEvents16 s v dst) := by
  obtain ⟨t, ht, k⟩ := Loc16.write_spec h hw (sourceEvents16 s src)
  refine ⟨t, ?_, k⟩
  unfold move16
  rw [hv, Src16.touched_eq]
  exact ht

/-- The flags of an 8-bit operation with a stored result. -/
theorem store_then_flags {s : State} (h : s.Legal) {dst : Loc8} {v : Byte} (hw : Writable8 s v dst) (e : List DevEvent)
    (f : Psw → Psw) (hf : ∀ p, (f p).rbs1 = p.rbs1 ∧ (f p).rbs0 = p.rbs0) :
    Gives ((dst.write (s.logAll e) v).map fun t => { t with psw := f t.psw }) s (stored8 s v dst)
      (storedWithFlags s v dst f) (e ++ writeEvents8 s v dst) :=
  (Gives.thenPsw (Loc8.write_spec h hw e) f hf).congr (fun _ => rfl) (fun _ => rfl) rfl

theorem arith8_spec {s : State} (h : s.Legal) {f : Byte → Byte → Alu8} {dst : Loc8} {src : Src8} {a b : Byte}
    (ha : dst.value s = .ok a) (hb : src.value s = .ok b) (hw : Writable8 s (f a b).res dst) :
    Gives (arith8 f dst src s) s (stored8 s (f a b).res dst)
      (storedWithFlags s (f a b).res dst fun p => p.withFlags (f a b).flags.z (f a b).flags.ac (f a b).flags.cy)
      (readEvents8 s dst ++ sourceEvents8 s src ++ writeEvents8 s (f a b).res dst) := by
  have k := store_then_flags h hw (readEvents8 s dst ++ sourceEvents8 s src)
    (fun p => p.withFlags (f a b).flags.z (f a b).flags.ac (f a b).flags.cy) (fun _ => ⟨rfl, rfl⟩)
  convert k using 1
  unfold arith8
  rw [ha, hb, Loc8.touched_eq, Src8.touched_eq, State.logAll_append, sourceEvents8_logAll]
  show (dst.write _ _ >>= _) = _
  cases dst.write (s.logAll (readEvents8 s dst ++ sourceEvents8 s src)) (f a b).res <;> rfl

theorem logic8_spec {s : State} (h : s.Legal) {f : Byte → Byte → Byte} {dst : Loc8} {src : Src8} {a b : Byte}
    (ha : dst.value s = .ok a) (hb : src.value s = .ok b) (hw : Writable8 s (f a b) dst) :
    Gives (logic8 f dst src s) s (stored8 s (f a b) dst)
      (storedWithFlags s (f a b) dst fun p => { p with z := f a b == 0 })
      (readEvents8 s dst ++ sourceEvents8 s src ++ writeEvents8 s (f a b) dst) := by
  have k := store_then_flags h hw (readEvents8 s dst ++ sourceEvents8 s src)
    (fun p => { p with z := f a b == 0 }) (fun _ => ⟨rfl, rfl⟩)
  convert k using 1
  unfold logic8
  rw [ha, hb, Loc8.touched_eq, Src8.touched_eq, State.logAll_append, sourceEvents8_logAll]
  show (dst.write _ _ >>= _) = _
  cases dst.write (s.logAll (readEvents8 s dst ++ sourceEvents8 s src)) (f a b) <;> rfl

theorem step8_spec {s : State} (h : s.Legal) {f : Byte → Step8} {dst : Loc8} {v : Byte}
    (hv : dst.value s = .ok v) (hw : Writable8 s (f v).res dst) :
    Gives (step8 f dst s) s (stored8 s (f v).res dst)
      (storedWithFlags s (f v).res dst fun p => { p with z := (f v).z, ac := (f v).ac })
      (readEvents8 s dst ++ writeEvents8 s (f v).res dst) := by
  have k := store_then_flags h hw (readEvents8 s dst) (fun p => { p with z := (f v).z, ac := (f v).ac })
    (fun _ => ⟨rfl, rfl⟩)
  convert k using 1
  unfold step8
  rw [hv, Loc8.touched_eq]
  show (dst.write _ _ >>= _) = _
  cases dst.write (s.logAll (readEvents8 s dst)) (f v).res <;> rfl

theorem moveString_spec {s : State} (h : s.Legal) {m : MemOp} (hw : Writable8 s (s.reg .x) (.mem m)) :
    Gives (moveString m s) s (stored8 s (s.reg .x) (.mem m))
      (storedWithFlags s (s.reg .x) (.mem m) fun p =>
        { p with z := s.reg .x == 0, cy := s.reg .a == 0 || s.reg .x == 0 })
      (writeEvents8 s (s.reg .x) (.mem m)) := by
  have k := store_then_flags h hw [] (fun p => { p with z := s.reg .x == 0, cy := s.reg .a == 0 || s.reg .x == 0 })
    (fun _ => ⟨rfl, rfl⟩)
  rw [State.logAll_nil, List.nil_append] at k
  convert k using 1
  unfold moveString
  cases (Loc8.mem m).write s (s.reg .x) <;> rfl

/-- Events, then PSW replaced. -/
theorem flags_only {s : State} (h : s.Legal) (e : List DevEvent) (f : Psw → Psw)
    (hf : ∀ p, (f p).rbs1 = p.rbs1 ∧ (f p).rbs0 = p.rbs0) :
    Gives (.ok { s.logAll e with psw := f s.psw }) s unchanged (onlyPsw (f s.psw)) e := by
  have k : Gives (.ok (s.logAll e)) s unchanged unchanged e :=
    ⟨_, rfl, Changes.logAll s e, ⟨rfl, rfl⟩, ⟨rfl, rfl⟩, h.logAll e⟩
  exact (k.thenPsw f hf).congr (fun _ => rfl) (fun _ => rfl) rfl

theorem compare8_spec {s : State} (h : s.Legal) {dst : Loc8} {src : Src8} {a b : Byte}
    (ha : dst.value s = .ok a) (hb : src.value s = .ok b) :
    Gives (compare8 dst src s) s unchanged
      (onlyPsw (s.psw.withFlags (sub8 a b false).flags.z (sub8 a b false).flags.ac (sub8 a b false).flags.cy))
      (readEvents8 s dst ++ sourceEvents8 s src) := by
  have k := flags_only h (readEvents8 s dst ++ sourceEvents8 s src)
    (fun p => p.withFlags (sub8 a b false).flags.z (sub8 a b false).flags.ac (sub8 a b false).flags.cy)
    (fun _ => ⟨rfl, rfl⟩)
  convert k using 1
  unfold compare8
  rw [ha, hb, Loc8.touched_eq, Src8.touched_eq, State.logAll_append, sourceEvents8_logAll]
  rfl

theorem compareZero_spec {s : State} (h : s.Legal) {dst : Loc8} {a : Byte} (ha : dst.value s = .ok a) :
    Gives (compareZero dst s) s unchanged (onlyPsw (s.psw.withFlags (a == 0) false false)) (readEvents8 s dst) := by
  have k := flags_only h (readEvents8 s dst) (fun p => p.withFlags (a == 0) false false) (fun _ => ⟨rfl, rfl⟩)
  convert k using 1
  unfold compareZero
  rw [ha, Loc8.touched_eq]
  rfl

theorem compareString_spec {s : State} (h : s.Legal) {m : MemOp} {v : Byte} (hv : (Loc8.mem m).value s = .ok v) :
    Gives (compareString m s) s unchanged
      (onlyPsw (s.psw.withFlags (cmpsFlags (s.reg .a) (s.reg .x) v).z (cmpsFlags (s.reg .a) (s.reg .x) v).ac
        (cmpsFlags (s.reg .a) (s.reg .x) v).cy)) (readEvents8 s (.mem m)) := by
  have k := flags_only h (readEvents8 s (.mem m)) (fun p => p.withFlags (cmpsFlags (s.reg .a) (s.reg .x) v).z
    (cmpsFlags (s.reg .a) (s.reg .x) v).ac (cmpsFlags (s.reg .a) (s.reg .x) v).cy) (fun _ => ⟨rfl, rfl⟩)
  convert k using 1
  unfold compareString
  rw [hv, Loc8.touched_eq]
  rfl

theorem setPair_after {s : State} (h : s.Legal) (p : RegPair) (v : Word) (e : List DevEvent) :
    Gives (.ok ((s.logAll e).setPair p v)) s (stored16 s v (.pair p)) unchanged e := by
  have k := Changes.of_logAll (setPair_changes (h.logAll e) p v)
  rw [List.append_nil] at k
  exact ⟨_, rfl, k⟩

theorem setReg_after {s : State} (h : s.Legal) (r : Reg) (v : Byte) :
    Gives (.ok (s.setReg r v)) s (stored8 s v (.reg r)) unchanged [] :=
  ⟨_, rfl, setReg_changes h r v⟩

theorem arith16_spec {s : State} (h : s.Legal) {f : Word → Word → Alu16} {src : Src16} {b : Word}
    (hb : src.value s = .ok b) :
    Gives (arith16 f src s) s (stored16 s (f (s.pair .ax) b).res (.pair .ax))
      (onlyPsw (s.psw.withFlags (f (s.pair .ax) b).z (s.freeBit .auxCarry) (f (s.pair .ax) b).cy))
      (sourceEvents16 s src) := by
  have k := (setPair_after h .ax (f (s.pair .ax) b).res (sourceEvents16 s src)).thenPsw
    (fun p => p.withFlags (f (s.pair .ax) b).z (s.freeBit .auxCarry) (f (s.pair .ax) b).cy) (fun _ => ⟨rfl, rfl⟩)
  refine (show arith16 f src s = _ from ?_) ▸ k.congr (fun _ => rfl) (fun _ => rfl) rfl
  unfold arith16
  rw [hb, Src16.touched_eq]
  simp [State.setFlags16, State.freeBit]
  rfl

theorem compare16_spec {s : State} (h : s.Legal) {src : Src16} {b : Word} (hb : src.value s = .ok b) :
    Gives (compare16 src s) s unchanged
      (onlyPsw (s.psw.withFlags (sub16 (s.pair .ax) b).z (s.freeBit .auxCarry) (sub16 (s.pair .ax) b).cy))
      (sourceEvents16 s src) := by
  have k := flags_only h (sourceEvents16 s src)
    (fun p => p.withFlags (sub16 (s.pair .ax) b).z (s.freeBit .auxCarry) (sub16 (s.pair .ax) b).cy)
    (fun _ => ⟨rfl, rfl⟩)
  convert k using 1
  unfold compare16
  rw [hb, Src16.touched_eq]
  rfl

theorem step16_spec {s : State} (h : s.Legal) {f : Word → Word} {dst : Loc16} {v : Word} (hv : dst.value s = .ok v)
    (hw : Writable16 s (f v) dst) :
    Gives (step16 f dst s) s (stored16 s (f v) dst) (storedCpu16 s (f v) dst)
      (readEvents16 s dst ++ writeEvents16 s (f v) dst) := by
  obtain ⟨t, ht, k⟩ := Loc16.write_spec h hw (readEvents16 s dst)
  refine ⟨t, ?_, k⟩
  unfold step16
  rw [hv, Loc16.touched_eq]
  exact ht

theorem shiftReg_spec {s : State} (h : s.Legal) (f : Byte → Shifted 8) (r : Reg) :
    Gives (shiftReg f r s) s (stored8 s (f (s.reg r)).res (.reg r)) (onlyPsw { s.psw with cy := (f (s.reg r)).cy }) [] := by
  have k := (setReg_after h r (f (s.reg r)).res).thenPsw (fun p => { p with cy := (f (s.reg r)).cy })
    (fun _ => ⟨rfl, rfl⟩)
  exact k.congr (fun _ => rfl) (fun _ => rfl) rfl

theorem shiftPair_spec {s : State} (h : s.Legal) (f : Word → Shifted 16) (p : RegPair) :
    Gives (shiftPair f p s) s (stored16 s (f (s.pair p)).res (.pair p))
      (onlyPsw { s.psw with cy := (f (s.pair p)).cy }) [] := by
  have k := (setPair_after h p (f (s.pair p)).res []).thenPsw (fun q => { q with cy := (f (s.pair p)).cy })
    (fun _ => ⟨rfl, rfl⟩)
  rw [State.logAll_nil] at k
  exact k.congr (fun _ => rfl) (fun _ => rfl) rfl

theorem bitToCy_spec {s : State} (h : s.Legal) (f : Bool → Bool → Bool) {src : Loc8} (bit : Fin 8) {v : Byte}
    (hv : src.value s = .ok v) :
    Gives (bitToCy f src bit s) s unchanged (onlyPsw { s.psw with cy := f s.psw.cy (bitOf v bit) })
      (readEvents8 s src) := by
  have k := flags_only h (readEvents8 s src) (fun p => { p with cy := f s.psw.cy (bitOf v bit) })
    (fun _ => ⟨rfl, rfl⟩)
  convert k using 1
  unfold bitToCy
  rw [hv, Loc8.touched_eq]
  rfl

theorem putBit8_spec {s : State} (h : s.Legal) {dst : Loc8} (bit : Fin 8) (b : Bool) {v : Byte}
    (hv : dst.value s = .ok v) (hw : Writable8 s (putBit v bit b) dst) :
    Gives (putBit8 dst bit b s) s (stored8 s (putBit v bit b) dst) (storedCpu8 s (putBit v bit b) dst)
      (readEvents8 s dst ++ writeEvents8 s (putBit v bit b) dst) := by
  obtain ⟨t, ht, k⟩ := Loc8.write_spec h hw (readEvents8 s dst)
  refine ⟨t, ?_, k⟩
  unfold putBit8
  rw [hv, Loc8.touched_eq]
  exact ht

/-! ## The division hazard (44_muldiv.md R268) -/

theorem followedByNop_iff (s : State) :
    followedByNop s = true ↔ fetchable s.cfg s.pc.toNat = true ∧ s.mem.read s.pc.toNat = 0x00 := by
  simp [followedByNop]

/-- When a division is marked as unprotected. -/
theorem markDivision_divHazard_iff (s : State) :
    (markDivision s).divHazard = true
      ↔ s.psw.ie = true ∧ (inRam s.cfg (s.pc - 1).toNat = true ∨ followedByNop s = false) := by
  simp [markDivision, State.ie]

end Sys2Proof.Machine
end

