-- ==== Sys2Proof/Laws/Meanings.lean ====
section
/-!
SUPPORT. Every row of a family has the family's shared meaning: one lemma per relation of Sys2Proof.Forms, so that a
statement about a family is proved once.
-/

namespace Sys2Proof.Forms

open Sys2Proof.Machine

theorem Move8.exec_eq {i dst src} (h : Move8 i dst src) (s : State) : exec i s = finish (move8 dst src s) := by
  cases h <;> rfl

theorem MovePsw.exec_eq {i src} (h : MovePsw i src) (s : State) : exec i s = finish (holding (move8 (.mem opPsw) src s)) := by
  cases h <;> rfl

theorem ExchangeReg.exec_eq {i r} (h : ExchangeReg i r) (s : State) : exec i s = finish (exchangeReg r s) := by
  cases h <;> rfl

theorem ExchangeMem.exec_eq {i m} (h : ExchangeMem i m) (s : State) : exec i s = finish (exchangeMem m s) := by
  cases h <;> rfl

theorem MoveString.exec_eq {i m} (h : MoveString i m) (s : State) : exec i s = finish (moveString m s) := by
  cases h <;> rfl

theorem Move16.exec_eq {i dst src} (h : Move16 i dst src) (s : State) : exec i s = finish (move16 dst src s) := by
  cases h <;> rfl

theorem Add8.exec_eq {i c dst src} (h : Add8 i c dst src) (s : State) :
    exec i s = finish (arith8 (fun a b => add8 a b (c && s.cy)) dst src s) := by
  cases h <;> rfl

theorem Sub8.exec_eq {i c dst src} (h : Sub8 i c dst src) (s : State) :
    exec i s = finish (arith8 (fun a b => sub8 a b (c && s.cy)) dst src s) := by
  cases h <;> rfl

theorem Logic8.exec_eq {i f dst src} (h : Logic8 i f dst src) (s : State) : exec i s = finish (logic8 f dst src s) := by
  cases h <;> rfl

theorem Compare8.exec_eq {i dst src} (h : Compare8 i dst src) (s : State) : exec i s = finish (compare8 dst src s) := by
  cases h <;> rfl

theorem CompareZero.exec_eq {i dst} (h : CompareZero i dst) (s : State) : exec i s = finish (compareZero dst s) := by
  cases h <;> rfl

theorem CompareString.exec_eq {i m} (h : CompareString i m) (s : State) : exec i s = finish (compareString m s) := by
  cases h <;> rfl

theorem Add16.exec_eq {i src} (h : Add16 i src) (s : State) : exec i s = finish (arith16 add16 src s) := by
  cases h <;> rfl

theorem Sub16.exec_eq {i src} (h : Sub16 i src) (s : State) : exec i s = finish (arith16 sub16 src s) := by
  cases h <;> rfl

theorem Compare16.exec_eq {i src} (h : Compare16 i src) (s : State) : exec i s = finish (compare16 src s) := by
  cases h <;> rfl

theorem Inc8.exec_eq {i dst} (h : Inc8 i dst) (s : State) : exec i s = finish (step8 inc8 dst s) := by
  cases h <;> rfl

theorem Dec8.exec_eq {i dst} (h : Dec8 i dst) (s : State) : exec i s = finish (step8 dec8 dst s) := by
  cases h <;> rfl

theorem Inc16.exec_eq {i dst} (h : Inc16 i dst) (s : State) : exec i s = finish (step16 (· + 1) dst s) := by
  cases h <;> rfl

theorem Dec16.exec_eq {i dst} (h : Dec16 i dst) (s : State) : exec i s = finish (step16 (· - 1) dst s) := by
  cases h <;> rfl

theorem BitToCy.exec_eq {i f src b} (h : BitToCy i f src b) (s : State) : exec i s = finish (bitToCy f src b s) := by
  cases h <;> rfl

theorem PswBitToCy.exec_eq {i f b} (h : PswBitToCy i f b) (s : State) : exec i s = finish (pswBitToCy f b s) := by
  cases h <;> rfl

theorem BitStore.exec_eq {i nv dst b} (h : BitStore i nv dst b) (s : State) :
    exec i s = finish (putBit8 dst b (nv.getD s.cy) s) := by
  cases h <;> rfl

theorem PswBitStore.exec_eq {i nv b} (h : PswBitStore i nv b) (s : State) :
    exec i s = finish (putPswBit b (nv.getD s.cy) s) := by
  cases h <;> rfl

theorem Branch.exec_eq {i c d} (h : Branch i c d) (s : State) : exec i s = finish (branchIf (c s.psw) d s) := by
  cases h <;> rfl

theorem BitBranch.exec_eq {i w src b d} (h : BitBranch i w src b d) (s : State) :
    exec i s = finish (branchOnBit w src b d s) := by
  cases h <;> rfl

theorem PswBitBranch.exec_eq {i w b d} (h : PswBitBranch i w b d) (s : State) :
    exec i s = finish (branchOnPswBit w b d s) := by
  cases h <;> rfl

theorem BitClearBranch.exec_eq {i dst b d} (h : BitClearBranch i dst b d) (s : State) :
    exec i s = finish (branchClear dst b d s) := by
  cases h <;> rfl

theorem Skip.exec_eq {i c} (h : Skip i c) (s : State) : exec i s = finish (skipIf (c s.psw) s) := by
  cases h <;> rfl

end Sys2Proof.Forms
end

