-- ==== Sys2Proof/Laws/PerInstr.lean ====
section
/-!
SUPPORT. Per instruction: an encoding is 1 to 5 bytes long (30_encoding.md R90). One lemma per constructor.
-/

namespace Sys2Proof.Laws.Encoding

/-- An instruction's encoding has 1 to 5 bytes (30_encoding.md R90). -/
def Statement (i : Instr) : Prop := 1 ≤ (encode i).length ∧ (encode i).length ≤ 5

theorem movRImm (r : Reg) (data : Byte) : Statement (.movRImm r data) :=
  ⟨Nat.le_of_ble_eq_true rfl, Nat.le_of_ble_eq_true rfl⟩
theorem movSaddrImm (sa : Byte) (data : Byte) : Statement (.movSaddrImm sa data) :=
  ⟨Nat.le_of_ble_eq_true rfl, Nat.le_of_ble_eq_true rfl⟩
theorem movSfrImm (sf : Byte) (data : Byte) : Statement (.movSfrImm sf data) :=
  ⟨Nat.le_of_ble_eq_true rfl, Nat.le_of_ble_eq_true rfl⟩
theorem movAbsImm (addr : Word) (data : Byte) : Statement (.movAbsImm addr data) :=
  ⟨Nat.le_of_ble_eq_true rfl, Nat.le_of_ble_eq_true rfl⟩
theorem movEsAbsImm (addr : Word) (data : Byte) : Statement (.movEsAbsImm addr data) :=
  ⟨Nat.le_of_ble_eq_true rfl, Nat.le_of_ble_eq_true rfl⟩
theorem movAR (r : Reg) : Statement (.movAR r) := ⟨Nat.le_of_ble_eq_true rfl, Nat.le_of_ble_eq_true rfl⟩
theorem movRA (r : Reg) : Statement (.movRA r) := ⟨Nat.le_of_ble_eq_true rfl, Nat.le_of_ble_eq_true rfl⟩
theorem movASaddr (sa : Byte) : Statement (.movASaddr sa) := ⟨Nat.le_of_ble_eq_true rfl, Nat.le_of_ble_eq_true rfl⟩
theorem movSaddrA (sa : Byte) : Statement (.movSaddrA sa) := ⟨Nat.le_of_ble_eq_true rfl, Nat.le_of_ble_eq_true rfl⟩
theorem movASfr (sf : Byte) : Statement (.movASfr sf) := ⟨Nat.le_of_ble_eq_true rfl, Nat.le_of_ble_eq_true rfl⟩
theorem movSfrA (sf : Byte) : Statement (.movSfrA sf) := ⟨Nat.le_of_ble_eq_true rfl, Nat.le_of_ble_eq_true rfl⟩
theorem movAAbs (addr : Word) : Statement (.movAAbs addr) := ⟨Nat.le_of_ble_eq_true rfl, Nat.le_of_ble_eq_true rfl⟩
theorem movAEsAbs (addr : Word) : Statement (.movAEsAbs addr) := ⟨Nat.le_of_ble_eq_true rfl, Nat.le_of_ble_eq_true rfl⟩
theorem movAbsA (addr : Word) : Statement (.movAbsA addr) := ⟨Nat.le_of_ble_eq_true rfl, Nat.le_of_ble_eq_true rfl⟩
theorem movEsAbsA (addr : Word) : Statement (.movEsAbsA addr) := ⟨Nat.le_of_ble_eq_true rfl, Nat.le_of_ble_eq_true rfl⟩
theorem movPswImm (data : Byte) : Statement (.movPswImm data) := ⟨Nat.le_of_ble_eq_true rfl, Nat.le_of_ble_eq_true rfl⟩
theorem movAPsw : Statement .movAPsw := ⟨Nat.le_of_ble_eq_true rfl, Nat.le_of_ble_eq_true rfl⟩
theorem movPswA : Statement .movPswA := ⟨Nat.le_of_ble_eq_true rfl, Nat.le_of_ble_eq_true rfl⟩
theorem movEsImm (data : Byte) : Statement (.movEsImm data) := ⟨Nat.le_of_ble_eq_true rfl, Nat.le_of_ble_eq_true rfl⟩
theorem movEsSaddr (sa : Byte) : Statement (.movEsSaddr sa) := ⟨Nat.le_of_ble_eq_true rfl, Nat.le_of_ble_eq_true rfl⟩
theorem movAEs : Statement .movAEs := ⟨Nat.le_of_ble_eq_true rfl, Nat.le_of_ble_eq_true rfl⟩
theorem movEsA : Statement .movEsA := ⟨Nat.le_of_ble_eq_true rfl, Nat.le_of_ble_eq_true rfl⟩
theorem movCsImm (data : Byte) : Statement (.movCsImm data) := ⟨Nat.le_of_ble_eq_true rfl, Nat.le_of_ble_eq_true rfl⟩
theorem movACs : Statement .movACs := ⟨Nat.le_of_ble_eq_true rfl, Nat.le_of_ble_eq_true rfl⟩
theorem movCsA : Statement .movCsA := ⟨Nat.le_of_ble_eq_true rfl, Nat.le_of_ble_eq_true rfl⟩
theorem movAAtDe : Statement .movAAtDe := ⟨Nat.le_of_ble_eq_true rfl, Nat.le_of_ble_eq_true rfl⟩
theorem movAEsAtDe : Statement .movAEsAtDe := ⟨Nat.le_of_ble_eq_true rfl, Nat.le_of_ble_eq_true rfl⟩
theorem movAtDeA : Statement .movAtDeA := ⟨Nat.le_of_ble_eq_true rfl, Nat.le_of_ble_eq_true rfl⟩
theorem movEsAtDeA : Statement .movEsAtDeA := ⟨Nat.le_of_ble_eq_true rfl, Nat.le_of_ble_eq_true rfl⟩
theorem movDeOffImm (off : Byte) (data : Byte) : Statement (.movDeOffImm off data) :=
  ⟨Nat.le_of_ble_eq_true rfl, Nat.le_of_ble_eq_true rfl⟩
theorem movEsDeOffImm (off : Byte) (data : Byte) : Statement (.movEsDeOffImm off data) :=
  ⟨Nat.le_of_ble_eq_true rfl, Nat.le_of_ble_eq_true rfl⟩
theorem movADeOff (off : Byte) : Statement (.movADeOff off) := ⟨Nat.le_of_ble_eq_true rfl, Nat.le_of_ble_eq_true rfl⟩
theorem movAEsDeOff (off : Byte) : Statement (.movAEsDeOff off) :=
  ⟨Nat.le_of_ble_eq_true rfl, Nat.le_of_ble_eq_true rfl⟩
theorem movDeOffA (off : Byte) : Statement (.movDeOffA off) := ⟨Nat.le_of_ble_eq_true rfl, Nat.le_of_ble_eq_true rfl⟩
theorem movEsDeOffA (off : Byte) : Statement (.movEsDeOffA off) :=
  ⟨Nat.le_of_ble_eq_true rfl, Nat.le_of_ble_eq_true rfl⟩
theorem movAAtHl : Statement .movAAtHl := ⟨Nat.le_of_ble_eq_true rfl, Nat.le_of_ble_eq_true rfl⟩
theorem movAEsAtHl : Statement .movAEsAtHl := ⟨Nat.le_of_ble_eq_true rfl, Nat.le_of_ble_eq_true rfl⟩
theorem movAtHlA : Statement .movAtHlA := ⟨Nat.le_of_ble_eq_true rfl, Nat.le_of_ble_eq_true rfl⟩
theorem movEsAtHlA : Statement .movEsAtHlA := ⟨Nat.le_of_ble_eq_true rfl, Nat.le_of_ble_eq_true rfl⟩
theorem movHlOffImm (off : Byte) (data : Byte) : Statement (.movHlOffImm off data) :=
  ⟨Nat.le_of_ble_eq_true rfl, Nat.le_of_ble_eq_true rfl⟩
theorem movEsHlOffImm (off : Byte) (data : Byte) : Statement (.movEsHlOffImm off data) :=
  ⟨Nat.le_of_ble_eq_true rfl, Nat.le_of_ble_eq_true rfl⟩
theorem movAHlOff (off : Byte) : Statement (.movAHlOff off) := ⟨Nat.le_of_ble_eq_true rfl, Nat.le_of_ble_eq_true rfl⟩
theorem movAEsHlOff (off : Byte) : Statement (.movAEsHlOff off) :=
  ⟨Nat.le_of_ble_eq_true rfl, Nat.le_of_ble_eq_true rfl⟩
theorem movHlOffA (off : Byte) : Statement (.movHlOffA off) := ⟨Nat.le_of_ble_eq_true rfl, Nat.le_of_ble_eq_true rfl⟩
theorem movEsHlOffA (off : Byte) : Statement (.movEsHlOffA off) :=
  ⟨Nat.le_of_ble_eq_true rfl, Nat.le_of_ble_eq_true rfl⟩
theorem movAHlB : Statement .movAHlB := ⟨Nat.le_of_ble_eq_true rfl, Nat.le_of_ble_eq_true rfl⟩
theorem movAEsHlB : Statement .movAEsHlB := ⟨Nat.le_of_ble_eq_true rfl, Nat.le_of_ble_eq_true rfl⟩
theorem movHlBA : Statement .movHlBA := ⟨Nat.le_of_ble_eq_true rfl, Nat.le_of_ble_eq_true rfl⟩
theorem movEsHlBA : Statement .movEsHlBA := ⟨Nat.le_of_ble_eq_true rfl, Nat.le_of_ble_eq_true rfl⟩
theorem movAHlC : Statement .movAHlC := ⟨Nat.le_of_ble_eq_true rfl, Nat.le_of_ble_eq_true rfl⟩
theorem movAEsHlC : Statement .movAEsHlC := ⟨Nat.le_of_ble_eq_true rfl, Nat.le_of_ble_eq_true rfl⟩
theorem movHlCA : Statement .movHlCA := ⟨Nat.le_of_ble_eq_true rfl, Nat.le_of_ble_eq_true rfl⟩
theorem movEsHlCA : Statement .movEsHlCA := ⟨Nat.le_of_ble_eq_true rfl, Nat.le_of_ble_eq_true rfl⟩
theorem movWordBImm (base : Word) (data : Byte) : Statement (.movWordBImm base data) :=
  ⟨Nat.le_of_ble_eq_true rfl, Nat.le_of_ble_eq_true rfl⟩
theorem movEsWordBImm (base : Word) (data : Byte) : Statement (.movEsWordBImm base data) :=
  ⟨Nat.le_of_ble_eq_true rfl, Nat.le_of_ble_eq_true rfl⟩
theorem movAWordB (base : Word) : Statement (.movAWordB base) := ⟨Nat.le_of_ble_eq_true rfl, Nat.le_of_ble_eq_true rfl⟩
theorem movAEsWordB (base : Word) : Statement (.movAEsWordB base) :=
  ⟨Nat.le_of_ble_eq_true rfl, Nat.le_of_ble_eq_true rfl⟩
theorem movWordBA (base : Word) : Statement (.movWordBA base) := ⟨Nat.le_of_ble_eq_true rfl, Nat.le_of_ble_eq_true rfl⟩
theorem movEsWordBA (base : Word) : Statement (.movEsWordBA base) :=
  ⟨Nat.le_of_ble_eq_true rfl, Nat.le_of_ble_eq_true rfl⟩
theorem movWordCImm (base : Word) (data : Byte) : Statement (.movWordCImm base data) :=
  ⟨Nat.le_of_ble_eq_true rfl, Nat.le_of_ble_eq_true rfl⟩
theorem movEsWordCImm (base : Word) (data : Byte) : Statement (.movEsWordCImm base data) :=
  ⟨Nat.le_of_ble_eq_true rfl, Nat.le_of_ble_eq_true rfl⟩
theorem movAWordC (base : Word) : Statement (.movAWordC base) := ⟨Nat.le_of_ble_eq_true rfl, Nat.le_of_ble_eq_true rfl⟩
theorem movAEsWordC (base : Word) : Statement (.movAEsWordC base) :=
  ⟨Nat.le_of_ble_eq_true rfl, Nat.le_of_ble_eq_true rfl⟩
theorem movWordCA (base : Word) : Statement (.movWordCA base) := ⟨Nat.le_of_ble_eq_true rfl, Nat.le_of_ble_eq_true rfl⟩
theorem movEsWordCA (base : Word) : Statement (.movEsWordCA base) :=
  ⟨Nat.le_of_ble_eq_true rfl, Nat.le_of_ble_eq_true rfl⟩
theorem movWordBcImm (base : Word) (data : Byte) : Statement (.movWordBcImm base data) :=
  ⟨Nat.le_of_ble_eq_true rfl, Nat.le_of_ble_eq_true rfl⟩
theorem movEsWordBcImm (base : Word) (data : Byte) : Statement (.movEsWordBcImm base data) :=
  ⟨Nat.le_of_ble_eq_true rfl, Nat.le_of_ble_eq_true rfl⟩
theorem movAWordBc (base : Word) : Statement (.movAWordBc base) :=
  ⟨Nat.le_of_ble_eq_true rfl, Nat.le_of_ble_eq_true rfl⟩
theorem movAEsWordBc (base : Word) : Statement (.movAEsWordBc base) :=
  ⟨Nat.le_of_ble_eq_true rfl, Nat.le_of_ble_eq_true rfl⟩
theorem movWordBcA (base : Word) : Statement (.movWordBcA base) :=
  ⟨Nat.le_of_ble_eq_true rfl, Nat.le_of_ble_eq_true rfl⟩
theorem movEsWordBcA (base : Word) : Statement (.movEsWordBcA base) :=
  ⟨Nat.le_of_ble_eq_true rfl, Nat.le_of_ble_eq_true rfl⟩
theorem movSpOffImm (off : Byte) (data : Byte) : Statement (.movSpOffImm off data) :=
  ⟨Nat.le_of_ble_eq_true rfl, Nat.le_of_ble_eq_true rfl⟩
theorem movASpOff (off : Byte) : Statement (.movASpOff off) := ⟨Nat.le_of_ble_eq_true rfl, Nat.le_of_ble_eq_true rfl⟩
theorem movSpOffA (off : Byte) : Statement (.movSpOffA off) := ⟨Nat.le_of_ble_eq_true rfl, Nat.le_of_ble_eq_true rfl⟩
theorem movBSaddr (sa : Byte) : Statement (.movBSaddr sa) := ⟨Nat.le_of_ble_eq_true rfl, Nat.le_of_ble_eq_true rfl⟩
theorem movBAbs (addr : Word) : Statement (.movBAbs addr) := ⟨Nat.le_of_ble_eq_true rfl, Nat.le_of_ble_eq_true rfl⟩
theorem movBEsAbs (addr : Word) : Statement (.movBEsAbs addr) := ⟨Nat.le_of_ble_eq_true rfl, Nat.le_of_ble_eq_true rfl⟩
theorem movCSaddr (sa : Byte) : Statement (.movCSaddr sa) := ⟨Nat.le_of_ble_eq_true rfl, Nat.le_of_ble_eq_true rfl⟩
theorem movCAbs (addr : Word) : Statement (.movCAbs addr) := ⟨Nat.le_of_ble_eq_true rfl, Nat.le_of_ble_eq_true rfl⟩
theorem movCEsAbs (addr : Word) : Statement (.movCEsAbs addr) := ⟨Nat.le_of_ble_eq_true rfl, Nat.le_of_ble_eq_true rfl⟩
theorem movXSaddr (sa : Byte) : Statement (.movXSaddr sa) := ⟨Nat.le_of_ble_eq_true rfl, Nat.le_of_ble_eq_true rfl⟩
theorem movXAbs (addr : Word) : Statement (.movXAbs addr) := ⟨Nat.le_of_ble_eq_true rfl, Nat.le_of_ble_eq_true rfl⟩
theorem movXEsAbs (addr : Word) : Statement (.movXEsAbs addr) := ⟨Nat.le_of_ble_eq_true rfl, Nat.le_of_ble_eq_true rfl⟩
theorem xchAX : Statement .xchAX := ⟨Nat.le_of_ble_eq_true rfl, Nat.le_of_ble_eq_true rfl⟩
theorem xchAR (r : Reg) : Statement (.xchAR r) := ⟨Nat.le_of_ble_eq_true rfl, Nat.le_of_ble_eq_true rfl⟩
theorem xchASaddr (sa : Byte) : Statement (.xchASaddr sa) := ⟨Nat.le_of_ble_eq_true rfl, Nat.le_of_ble_eq_true rfl⟩
theorem xchASfr (sf : Byte) : Statement (.xchASfr sf) := ⟨Nat.le_of_ble_eq_true rfl, Nat.le_of_ble_eq_true rfl⟩
theorem xchAAbs (addr : Word) : Statement (.xchAAbs addr) := ⟨Nat.le_of_ble_eq_true rfl, Nat.le_of_ble_eq_true rfl⟩
theorem xchAEsAbs (addr : Word) : Statement (.xchAEsAbs addr) := ⟨Nat.le_of_ble_eq_true rfl, Nat.le_of_ble_eq_true rfl⟩
theorem xchAAtDe : Statement .xchAAtDe := ⟨Nat.le_of_ble_eq_true rfl, Nat.le_of_ble_eq_true rfl⟩
theorem xchAEsAtDe : Statement .xchAEsAtDe := ⟨Nat.le_of_ble_eq_true rfl, Nat.le_of_ble_eq_true rfl⟩
theorem xchADeOff (off : Byte) : Statement (.xchADeOff off) := ⟨Nat.le_of_ble_eq_true rfl, Nat.le_of_ble_eq_true rfl⟩
theorem xchAEsDeOff (off : Byte) : Statement (.xchAEsDeOff off) :=
  ⟨Nat.le_of_ble_eq_true rfl, Nat.le_of_ble_eq_true rfl⟩
theorem xchAAtHl : Statement .xchAAtHl := ⟨Nat.le_of_ble_eq_true rfl, Nat.le_of_ble_eq_true rfl⟩
theorem xchAEsAtHl : Statement .xchAEsAtHl := ⟨Nat.le_of_ble_eq_true rfl, Nat.le_of_ble_eq_true rfl⟩
theorem xchAHlOff (off : Byte) : Statement (.xchAHlOff off) := ⟨Nat.le_of_ble_eq_true rfl, Nat.le_of_ble_eq_true rfl⟩
theorem xchAEsHlOff (off : Byte) : Statement (.xchAEsHlOff off) :=
  ⟨Nat.le_of_ble_eq_true rfl, Nat.le_of_ble_eq_true rfl⟩
theorem xchAHlB : Statement .xchAHlB := ⟨Nat.le_of_ble_eq_true rfl, Nat.le_of_ble_eq_true rfl⟩
theorem xchAEsHlB : Statement .xchAEsHlB := ⟨Nat.le_of_ble_eq_true rfl, Nat.le_of_ble_eq_true rfl⟩
theorem xchAHlC : Statement .xchAHlC := ⟨Nat.le_of_ble_eq_true rfl, Nat.le_of_ble_eq_true rfl⟩
theorem xchAEsHlC : Statement .xchAEsHlC := ⟨Nat.le_of_ble_eq_true rfl, Nat.le_of_ble_eq_true rfl⟩
theorem onebR (r : Reg) : Statement (.onebR r) := ⟨Nat.le_of_ble_eq_true rfl, Nat.le_of_ble_eq_true rfl⟩
theorem onebSaddr (sa : Byte) : Statement (.onebSaddr sa) := ⟨Nat.le_of_ble_eq_true rfl, Nat.le_of_ble_eq_true rfl⟩
theorem onebAbs (addr : Word) : Statement (.onebAbs addr) := ⟨Nat.le_of_ble_eq_true rfl, Nat.le_of_ble_eq_true rfl⟩
theorem onebEsAbs (addr : Word) : Statement (.onebEsAbs addr) := ⟨Nat.le_of_ble_eq_true rfl, Nat.le_of_ble_eq_true rfl⟩
theorem clrbR (r : Reg) : Statement (.clrbR r) := ⟨Nat.le_of_ble_eq_true rfl, Nat.le_of_ble_eq_true rfl⟩
theorem clrbSaddr (sa : Byte) : Statement (.clrbSaddr sa) := ⟨Nat.le_of_ble_eq_true rfl, Nat.le_of_ble_eq_true rfl⟩
theorem clrbAbs (addr : Word) : Statement (.clrbAbs addr) := ⟨Nat.le_of_ble_eq_true rfl, Nat.le_of_ble_eq_true rfl⟩
theorem clrbEsAbs (addr : Word) : Statement (.clrbEsAbs addr) := ⟨Nat.le_of_ble_eq_true rfl, Nat.le_of_ble_eq_true rfl⟩
theorem movsHlOffX (off : Byte) : Statement (.movsHlOffX off) := ⟨Nat.le_of_ble_eq_true rfl, Nat.le_of_ble_eq_true rfl⟩
theorem movsEsHlOffX (off : Byte) : Statement (.movsEsHlOffX off) :=
  ⟨Nat.le_of_ble_eq_true rfl, Nat.le_of_ble_eq_true rfl⟩
theorem movwRpImm (rp : RegPair) (data : Word) : Statement (.movwRpImm rp data) :=
  ⟨Nat.le_of_ble_eq_true rfl, Nat.le_of_ble_eq_true rfl⟩
theorem movwSaddrpImm (sa : Byte) (data : Word) : Statement (.movwSaddrpImm sa data) :=
  ⟨Nat.le_of_ble_eq_true rfl, Nat.le_of_ble_eq_true rfl⟩
theorem movwSfrpImm (sf : Byte) (data : Word) : Statement (.movwSfrpImm sf data) :=
  ⟨Nat.le_of_ble_eq_true rfl, Nat.le_of_ble_eq_true rfl⟩
theorem movwAxSaddrp (sa : Byte) : Statement (.movwAxSaddrp sa) :=
  ⟨Nat.le_of_ble_eq_true rfl, Nat.le_of_ble_eq_true rfl⟩
theorem movwSaddrpAx (sa : Byte) : Statement (.movwSaddrpAx sa) :=
  ⟨Nat.le_of_ble_eq_true rfl, Nat.le_of_ble_eq_true rfl⟩
theorem movwAxSfrp (sf : Byte) : Statement (.movwAxSfrp sf) := ⟨Nat.le_of_ble_eq_true rfl, Nat.le_of_ble_eq_true rfl⟩
theorem movwSfrpAx (sf : Byte) : Statement (.movwSfrpAx sf) := ⟨Nat.le_of_ble_eq_true rfl, Nat.le_of_ble_eq_true rfl⟩
theorem movwAxRp (rp : RegPair) : Statement (.movwAxRp rp) := ⟨Nat.le_of_ble_eq_true rfl, Nat.le_of_ble_eq_true rfl⟩
theorem movwRpAx (rp : RegPair) : Statement (.movwRpAx rp) := ⟨Nat.le_of_ble_eq_true rfl, Nat.le_of_ble_eq_true rfl⟩
theorem movwAxAbs (addr : Word) : Statement (.movwAxAbs addr) := ⟨Nat.le_of_ble_eq_true rfl, Nat.le_of_ble_eq_true rfl⟩
theorem movwAxEsAbs (addr : Word) : Statement (.movwAxEsAbs addr) :=
  ⟨Nat.le_of_ble_eq_true rfl, Nat.le_of_ble_eq_true rfl⟩
theorem movwAbsAx (addr : Word) : Statement (.movwAbsAx addr) := ⟨Nat.le_of_ble_eq_true rfl, Nat.le_of_ble_eq_true rfl⟩
theorem movwEsAbsAx (addr : Word) : Statement (.movwEsAbsAx addr) :=
  ⟨Nat.le_of_ble_eq_true rfl, Nat.le_of_ble_eq_true rfl⟩
theorem movwAxAtDe : Statement .movwAxAtDe := ⟨Nat.le_of_ble_eq_true rfl, Nat.le_of_ble_eq_true rfl⟩
theorem movwAxEsAtDe : Statement .movwAxEsAtDe := ⟨Nat.le_of_ble_eq_true rfl, Nat.le_of_ble_eq_true rfl⟩
theorem movwAtDeAx : Statement .movwAtDeAx := ⟨Nat.le_of_ble_eq_true rfl, Nat.le_of_ble_eq_true rfl⟩
theorem movwEsAtDeAx : Statement .movwEsAtDeAx := ⟨Nat.le_of_ble_eq_true rfl, Nat.le_of_ble_eq_true rfl⟩
theorem movwAxDeOff (off : Byte) : Statement (.movwAxDeOff off) :=
  ⟨Nat.le_of_ble_eq_true rfl, Nat.le_of_ble_eq_true rfl⟩
theorem movwAxEsDeOff (off : Byte) : Statement (.movwAxEsDeOff off) :=
  ⟨Nat.le_of_ble_eq_true rfl, Nat.le_of_ble_eq_true rfl⟩
theorem movwDeOffAx (off : Byte) : Statement (.movwDeOffAx off) :=
  ⟨Nat.le_of_ble_eq_true rfl, Nat.le_of_ble_eq_true rfl⟩
theorem movwEsDeOffAx (off : Byte) : Statement (.movwEsDeOffAx off) :=
  ⟨Nat.le_of_ble_eq_true rfl, Nat.le_of_ble_eq_true rfl⟩
theorem movwAxAtHl : Statement .movwAxAtHl := ⟨Nat.le_of_ble_eq_true rfl, Nat.le_of_ble_eq_true rfl⟩
theorem movwAxEsAtHl : Statement .movwAxEsAtHl := ⟨Nat.le_of_ble_eq_true rfl, Nat.le_of_ble_eq_true rfl⟩
theorem movwAtHlAx : Statement .movwAtHlAx := ⟨Nat.le_of_ble_eq_true rfl, Nat.le_of_ble_eq_true rfl⟩
theorem movwEsAtHlAx : Statement .movwEsAtHlAx := ⟨Nat.le_of_ble_eq_true rfl, Nat.le_of_ble_eq_true rfl⟩
theorem movwAxHlOff (off : Byte) : Statement (.movwAxHlOff off) :=
  ⟨Nat.le_of_ble_eq_true rfl, Nat.le_of_ble_eq_true rfl⟩
theorem movwAxEsHlOff (off : Byte) : Statement (.movwAxEsHlOff off) :=
  ⟨Nat.le_of_ble_eq_true rfl, Nat.le_of_ble_eq_true rfl⟩
theorem movwHlOffAx (off : Byte) : Statement (.movwHlOffAx off) :=
  ⟨Nat.le_of_ble_eq_true rfl, Nat.le_of_ble_eq_true rfl⟩
theorem movwEsHlOffAx (off : Byte) : Statement (.movwEsHlOffAx off) :=
  ⟨Nat.le_of_ble_eq_true rfl, Nat.le_of_ble_eq_true rfl⟩
theorem movwAxWordB (base : Word) : Statement (.movwAxWordB base) :=
  ⟨Nat.le_of_ble_eq_true rfl, Nat.le_of_ble_eq_true rfl⟩
theorem movwAxEsWordB (base : Word) : Statement (.movwAxEsWordB base) :=
  ⟨Nat.le_of_ble_eq_true rfl, Nat.le_of_ble_eq_true rfl⟩
theorem movwWordBAx (base : Word) : Statement (.movwWordBAx base) :=
  ⟨Nat.le_of_ble_eq_true rfl, Nat.le_of_ble_eq_true rfl⟩
theorem movwEsWordBAx (base : Word) : Statement (.movwEsWordBAx base) :=
  ⟨Nat.le_of_ble_eq_true rfl, Nat.le_of_ble_eq_true rfl⟩
theorem movwAxWordC (base : Word) : Statement (.movwAxWordC base) :=
  ⟨Nat.le_of_ble_eq_true rfl, Nat.le_of_ble_eq_true rfl⟩
theorem movwAxEsWordC (base : Word) : Statement (.movwAxEsWordC base) :=
  ⟨Nat.le_of_ble_eq_true rfl, Nat.le_of_ble_eq_true rfl⟩
theorem movwWordCAx (base : Word) : Statement (.movwWordCAx base) :=
  ⟨Nat.le_of_ble_eq_true rfl, Nat.le_of_ble_eq_true rfl⟩
theorem movwEsWordCAx (base : Word) : Statement (.movwEsWordCAx base) :=
  ⟨Nat.le_of_ble_eq_true rfl, Nat.le_of_ble_eq_true rfl⟩
theorem movwAxWordBc (base : Word) : Statement (.movwAxWordBc base) :=
  ⟨Nat.le_of_ble_eq_true rfl, Nat.le_of_ble_eq_true rfl⟩
theorem movwAxEsWordBc (base : Word) : Statement (.movwAxEsWordBc base) :=
  ⟨Nat.le_of_ble_eq_true rfl, Nat.le_of_ble_eq_true rfl⟩
theorem movwWordBcAx (base : Word) : Statement (.movwWordBcAx base) :=
  ⟨Nat.le_of_ble_eq_true rfl, Nat.le_of_ble_eq_true rfl⟩
theorem movwEsWordBcAx (base : Word) : Statement (.movwEsWordBcAx base) :=
  ⟨Nat.le_of_ble_eq_true rfl, Nat.le_of_ble_eq_true rfl⟩
theorem movwAxSpOff (off : Byte) : Statement (.movwAxSpOff off) :=
  ⟨Nat.le_of_ble_eq_true rfl, Nat.le_of_ble_eq_true rfl⟩
theorem movwSpOffAx (off : Byte) : Statement (.movwSpOffAx off) :=
  ⟨Nat.le_of_ble_eq_true rfl, Nat.le_of_ble_eq_true rfl⟩
theorem movwRpSaddrp (rp : RegPair) (sa : Byte) : Statement (.movwRpSaddrp rp sa) :=
  ⟨Nat.le_of_ble_eq_true rfl, Nat.le_of_ble_eq_true rfl⟩
theorem movwRpAbs (rp : RegPair) (addr : Word) : Statement (.movwRpAbs rp addr) :=
  ⟨Nat.le_of_ble_eq_true rfl, Nat.le_of_ble_eq_true rfl⟩
theorem movwRpEsAbs (rp : RegPair) (addr : Word) : Statement (.movwRpEsAbs rp addr) :=
  ⟨Nat.le_of_ble_eq_true rfl, Nat.le_of_ble_eq_true rfl⟩
theorem xchwAxRp (rp : RegPair) : Statement (.xchwAxRp rp) := ⟨Nat.le_of_ble_eq_true rfl, Nat.le_of_ble_eq_true rfl⟩
theorem onewAx : Statement .onewAx := ⟨Nat.le_of_ble_eq_true rfl, Nat.le_of_ble_eq_true rfl⟩
theorem onewBc : Statement .onewBc := ⟨Nat.le_of_ble_eq_true rfl, Nat.le_of_ble_eq_true rfl⟩
theorem clrwAx : Statement .clrwAx := ⟨Nat.le_of_ble_eq_true rfl, Nat.le_of_ble_eq_true rfl⟩
theorem clrwBc : Statement .clrwBc := ⟨Nat.le_of_ble_eq_true rfl, Nat.le_of_ble_eq_true rfl⟩
theorem addAImm (data : Byte) : Statement (.addAImm data) := ⟨Nat.le_of_ble_eq_true rfl, Nat.le_of_ble_eq_true rfl⟩
theorem addSaddrImm (sa : Byte) (data : Byte) : Statement (.addSaddrImm sa data) :=
  ⟨Nat.le_of_ble_eq_true rfl, Nat.le_of_ble_eq_true rfl⟩
theorem addAR (r : Reg) : Statement (.addAR r) := ⟨Nat.le_of_ble_eq_true rfl, Nat.le_of_ble_eq_true rfl⟩
theorem addRA (r : Reg) : Statement (.addRA r) := ⟨Nat.le_of_ble_eq_true rfl, Nat.le_of_ble_eq_true rfl⟩
theorem addASaddr (sa : Byte) : Statement (.addASaddr sa) := ⟨Nat.le_of_ble_eq_true rfl, Nat.le_of_ble_eq_true rfl⟩
theorem addAAbs (addr : Word) : Statement (.addAAbs addr) := ⟨Nat.le_of_ble_eq_true rfl, Nat.le_of_ble_eq_true rfl⟩
theorem addAEsAbs (addr : Word) : Statement (.addAEsAbs addr) := ⟨Nat.le_of_ble_eq_true rfl, Nat.le_of_ble_eq_true rfl⟩
theorem addAAtHl : Statement .addAAtHl := ⟨Nat.le_of_ble_eq_true rfl, Nat.le_of_ble_eq_true rfl⟩
theorem addAEsAtHl : Statement .addAEsAtHl := ⟨Nat.le_of_ble_eq_true rfl, Nat.le_of_ble_eq_true rfl⟩
theorem addAHlOff (off : Byte) : Statement (.addAHlOff off) := ⟨Nat.le_of_ble_eq_true rfl, Nat.le_of_ble_eq_true rfl⟩
theorem addAEsHlOff (off : Byte) : Statement (.addAEsHlOff off) :=
  ⟨Nat.le_of_ble_eq_true rfl, Nat.le_of_ble_eq_true rfl⟩
theorem addAHlB : Statement .addAHlB := ⟨Nat.le_of_ble_eq_true rfl, Nat.le_of_ble_eq_true rfl⟩
theorem addAEsHlB : Statement .addAEsHlB := ⟨Nat.le_of_ble_eq_true rfl, Nat.le_of_ble_eq_true rfl⟩
theorem addAHlC : Statement .addAHlC := ⟨Nat.le_of_ble_eq_true rfl, Nat.le_of_ble_eq_true rfl⟩
theorem addAEsHlC : Statement .addAEsHlC := ⟨Nat.le_of_ble_eq_true rfl, Nat.le_of_ble_eq_true rfl⟩
theorem addcAImm (data : Byte) : Statement (.addcAImm data) := ⟨Nat.le_of_ble_eq_true rfl, Nat.le_of_ble_eq_true rfl⟩
theorem addcSaddrImm (sa : Byte) (data : Byte) : Statement (.addcSaddrImm sa data) :=
  ⟨Nat.le_of_ble_eq_true rfl, Nat.le_of_ble_eq_true rfl⟩
theorem addcAR (r : Reg) : Statement (.addcAR r) := ⟨Nat.le_of_ble_eq_true rfl, Nat.le_of_ble_eq_true rfl⟩
theorem addcRA (r : Reg) : Statement (.addcRA r) := ⟨Nat.le_of_ble_eq_true rfl, Nat.le_of_ble_eq_true rfl⟩
theorem addcASaddr (sa : Byte) : Statement (.addcASaddr sa) := ⟨Nat.le_of_ble_eq_true rfl, Nat.le_of_ble_eq_true rfl⟩
theorem addcAAbs (addr : Word) : Statement (.addcAAbs addr) := ⟨Nat.le_of_ble_eq_true rfl, Nat.le_of_ble_eq_true rfl⟩
theorem addcAEsAbs (addr : Word) : Statement (.addcAEsAbs addr) :=
  ⟨Nat.le_of_ble_eq_true rfl, Nat.le_of_ble_eq_true rfl⟩
theorem addcAAtHl : Statement .addcAAtHl := ⟨Nat.le_of_ble_eq_true rfl, Nat.le_of_ble_eq_true rfl⟩
theorem addcAEsAtHl : Statement .addcAEsAtHl := ⟨Nat.le_of_ble_eq_true rfl, Nat.le_of_ble_eq_true rfl⟩
theorem addcAHlOff (off : Byte) : Statement (.addcAHlOff off) := ⟨Nat.le_of_ble_eq_true rfl, Nat.le_of_ble_eq_true rfl⟩
theorem addcAEsHlOff (off : Byte) : Statement (.addcAEsHlOff off) :=
  ⟨Nat.le_of_ble_eq_true rfl, Nat.le_of_ble_eq_true rfl⟩
theorem addcAHlB : Statement .addcAHlB := ⟨Nat.le_of_ble_eq_true rfl, Nat.le_of_ble_eq_true rfl⟩
theorem addcAEsHlB : Statement .addcAEsHlB := ⟨Nat.le_of_ble_eq_true rfl, Nat.le_of_ble_eq_true rfl⟩
theorem addcAHlC : Statement .addcAHlC := ⟨Nat.le_of_ble_eq_true rfl, Nat.le_of_ble_eq_true rfl⟩
theorem addcAEsHlC : Statement .addcAEsHlC := ⟨Nat.le_of_ble_eq_true rfl, Nat.le_of_ble_eq_true rfl⟩
theorem subAImm (data : Byte) : Statement (.subAImm data) := ⟨Nat.le_of_ble_eq_true rfl, Nat.le_of_ble_eq_true rfl⟩
theorem subSaddrImm (sa : Byte) (data : Byte) : Statement (.subSaddrImm sa data) :=
  ⟨Nat.le_of_ble_eq_true rfl, Nat.le_of_ble_eq_true rfl⟩
theorem subAR (r : Reg) : Statement (.subAR r) := ⟨Nat.le_of_ble_eq_true rfl, Nat.le_of_ble_eq_true rfl⟩
theorem subRA (r : Reg) : Statement (.subRA r) := ⟨Nat.le_of_ble_eq_true rfl, Nat.le_of_ble_eq_true rfl⟩
theorem subASaddr (sa : Byte) : Statement (.subASaddr sa) := ⟨Nat.le_of_ble_eq_true rfl, Nat.le_of_ble_eq_true rfl⟩
theorem subAAbs (addr : Word) : Statement (.subAAbs addr) := ⟨Nat.le_of_ble_eq_true rfl, Nat.le_of_ble_eq_true rfl⟩
theorem subAEsAbs (addr : Word) : Statement (.subAEsAbs addr) := ⟨Nat.le_of_ble_eq_true rfl, Nat.le_of_ble_eq_true rfl⟩
theorem subAAtHl : Statement .subAAtHl := ⟨Nat.le_of_ble_eq_true rfl, Nat.le_of_ble_eq_true rfl⟩
theorem subAEsAtHl : Statement .subAEsAtHl := ⟨Nat.le_of_ble_eq_true rfl, Nat.le_of_ble_eq_true rfl⟩
theorem subAHlOff (off : Byte) : Statement (.subAHlOff off) := ⟨Nat.le_of_ble_eq_true rfl, Nat.le_of_ble_eq_true rfl⟩
theorem subAEsHlOff (off : Byte) : Statement (.subAEsHlOff off) :=
  ⟨Nat.le_of_ble_eq_true rfl, Nat.le_of_ble_eq_true rfl⟩
theorem subAHlB : Statement .subAHlB := ⟨Nat.le_of_ble_eq_true rfl, Nat.le_of_ble_eq_true rfl⟩
theorem subAEsHlB : Statement .subAEsHlB := ⟨Nat.le_of_ble_eq_true rfl, Nat.le_of_ble_eq_true rfl⟩
theorem subAHlC : Statement .subAHlC := ⟨Nat.le_of_ble_eq_true rfl, Nat.le_of_ble_eq_true rfl⟩
theorem subAEsHlC : Statement .subAEsHlC := ⟨Nat.le_of_ble_eq_true rfl, Nat.le_of_ble_eq_true rfl⟩
theorem subcAImm (data : Byte) : Statement (.subcAImm data) := ⟨Nat.le_of_ble_eq_true rfl, Nat.le_of_ble_eq_true rfl⟩
theorem subcSaddrImm (sa : Byte) (data : Byte) : Statement (.subcSaddrImm sa data) :=
  ⟨Nat.le_of_ble_eq_true rfl, Nat.le_of_ble_eq_true rfl⟩
theorem subcAR (r : Reg) : Statement (.subcAR r) := ⟨Nat.le_of_ble_eq_true rfl, Nat.le_of_ble_eq_true rfl⟩
theorem subcRA (r : Reg) : Statement (.subcRA r) := ⟨Nat.le_of_ble_eq_true rfl, Nat.le_of_ble_eq_true rfl⟩
theorem subcASaddr (sa : Byte) : Statement (.subcASaddr sa) := ⟨Nat.le_of_ble_eq_true rfl, Nat.le_of_ble_eq_true rfl⟩
theorem subcAAbs (addr : Word) : Statement (.subcAAbs addr) := ⟨Nat.le_of_ble_eq_true rfl, Nat.le_of_ble_eq_true rfl⟩
theorem subcAEsAbs (addr : Word) : Statement (.subcAEsAbs addr) :=
  ⟨Nat.le_of_ble_eq_true rfl, Nat.le_of_ble_eq_true rfl⟩
theorem subcAAtHl : Statement .subcAAtHl := ⟨Nat.le_of_ble_eq_true rfl, Nat.le_of_ble_eq_true rfl⟩
theorem subcAEsAtHl : Statement .subcAEsAtHl := ⟨Nat.le_of_ble_eq_true rfl, Nat.le_of_ble_eq_true rfl⟩
theorem subcAHlOff (off : Byte) : Statement (.subcAHlOff off) := ⟨Nat.le_of_ble_eq_true rfl, Nat.le_of_ble_eq_true rfl⟩
theorem subcAEsHlOff (off : Byte) : Statement (.subcAEsHlOff off) :=
  ⟨Nat.le_of_ble_eq_true rfl, Nat.le_of_ble_eq_true rfl⟩
theorem subcAHlB : Statement .subcAHlB := ⟨Nat.le_of_ble_eq_true rfl, Nat.le_of_ble_eq_true rfl⟩
theorem subcAEsHlB : Statement .subcAEsHlB := ⟨Nat.le_of_ble_eq_true rfl, Nat.le_of_ble_eq_true rfl⟩
theorem subcAHlC : Statement .subcAHlC := ⟨Nat.le_of_ble_eq_true rfl, Nat.le_of_ble_eq_true rfl⟩
theorem subcAEsHlC : Statement .subcAEsHlC := ⟨Nat.le_of_ble_eq_true rfl, Nat.le_of_ble_eq_true rfl⟩
theorem cmpAImm (data : Byte) : Statement (.cmpAImm data) := ⟨Nat.le_of_ble_eq_true rfl, Nat.le_of_ble_eq_true rfl⟩
theorem cmpSaddrImm (sa : Byte) (data : Byte) : Statement (.cmpSaddrImm sa data) :=
  ⟨Nat.le_of_ble_eq_true rfl, Nat.le_of_ble_eq_true rfl⟩
theorem cmpAR (r : Reg) : Statement (.cmpAR r) := ⟨Nat.le_of_ble_eq_true rfl, Nat.le_of_ble_eq_true rfl⟩
theorem cmpRA (r : Reg) : Statement (.cmpRA r) := ⟨Nat.le_of_ble_eq_true rfl, Nat.le_of_ble_eq_true rfl⟩
theorem cmpASaddr (sa : Byte) : Statement (.cmpASaddr sa) := ⟨Nat.le_of_ble_eq_true rfl, Nat.le_of_ble_eq_true rfl⟩
theorem cmpAAbs (addr : Word) : Statement (.cmpAAbs addr) := ⟨Nat.le_of_ble_eq_true rfl, Nat.le_of_ble_eq_true rfl⟩
theorem cmpAEsAbs (addr : Word) : Statement (.cmpAEsAbs addr) := ⟨Nat.le_of_ble_eq_true rfl, Nat.le_of_ble_eq_true rfl⟩
theorem cmpAAtHl : Statement .cmpAAtHl := ⟨Nat.le_of_ble_eq_true rfl, Nat.le_of_ble_eq_true rfl⟩
theorem cmpAEsAtHl : Statement .cmpAEsAtHl := ⟨Nat.le_of_ble_eq_true rfl, Nat.le_of_ble_eq_true rfl⟩
theorem cmpAHlOff (off : Byte) : Statement (.cmpAHlOff off) := ⟨Nat.le_of_ble_eq_true rfl, Nat.le_of_ble_eq_true rfl⟩
theorem cmpAEsHlOff (off : Byte) : Statement (.cmpAEsHlOff off) :=
  ⟨Nat.le_of_ble_eq_true rfl, Nat.le_of_ble_eq_true rfl⟩
theorem cmpAHlB : Statement .cmpAHlB := ⟨Nat.le_of_ble_eq_true rfl, Nat.le_of_ble_eq_true rfl⟩
theorem cmpAEsHlB : Statement .cmpAEsHlB := ⟨Nat.le_of_ble_eq_true rfl, Nat.le_of_ble_eq_true rfl⟩
theorem cmpAHlC : Statement .cmpAHlC := ⟨Nat.le_of_ble_eq_true rfl, Nat.le_of_ble_eq_true rfl⟩
theorem cmpAEsHlC : Statement .cmpAEsHlC := ⟨Nat.le_of_ble_eq_true rfl, Nat.le_of_ble_eq_true rfl⟩
theorem andAImm (data : Byte) : Statement (.andAImm data) := ⟨Nat.le_of_ble_eq_true rfl, Nat.le_of_ble_eq_true rfl⟩
theorem andSaddrImm (sa : Byte) (data : Byte) : Statement (.andSaddrImm sa data) :=
  ⟨Nat.le_of_ble_eq_true rfl, Nat.le_of_ble_eq_true rfl⟩
theorem andAR (r : Reg) : Statement (.andAR r) := ⟨Nat.le_of_ble_eq_true rfl, Nat.le_of_ble_eq_true rfl⟩
theorem andRA (r : Reg) : Statement (.andRA r) := ⟨Nat.le_of_ble_eq_true rfl, Nat.le_of_ble_eq_true rfl⟩
theorem andASaddr (sa : Byte) : Statement (.andASaddr sa) := ⟨Nat.le_of_ble_eq_true rfl, Nat.le_of_ble_eq_true rfl⟩
theorem andAAbs (addr : Word) : Statement (.andAAbs addr) := ⟨Nat.le_of_ble_eq_true rfl, Nat.le_of_ble_eq_true rfl⟩
theorem andAEsAbs (addr : Word) : Statement (.andAEsAbs addr) := ⟨Nat.le_of_ble_eq_true rfl, Nat.le_of_ble_eq_true rfl⟩
theorem andAAtHl : Statement .andAAtHl := ⟨Nat.le_of_ble_eq_true rfl, Nat.le_of_ble_eq_true rfl⟩
theorem andAEsAtHl : Statement .andAEsAtHl := ⟨Nat.le_of_ble_eq_true rfl, Nat.le_of_ble_eq_true rfl⟩
theorem andAHlOff (off : Byte) : Statement (.andAHlOff off) := ⟨Nat.le_of_ble_eq_true rfl, Nat.le_of_ble_eq_true rfl⟩
theorem andAEsHlOff (off : Byte) : Statement (.andAEsHlOff off) :=
  ⟨Nat.le_of_ble_eq_true rfl, Nat.le_of_ble_eq_true rfl⟩
theorem andAHlB : Statement .andAHlB := ⟨Nat.le_of_ble_eq_true rfl, Nat.le_of_ble_eq_true rfl⟩
theorem andAEsHlB : Statement .andAEsHlB := ⟨Nat.le_of_ble_eq_true rfl, Nat.le_of_ble_eq_true rfl⟩
theorem andAHlC : Statement .andAHlC := ⟨Nat.le_of_ble_eq_true rfl, Nat.le_of_ble_eq_true rfl⟩
theorem andAEsHlC : Statement .andAEsHlC := ⟨Nat.le_of_ble_eq_true rfl, Nat.le_of_ble_eq_true rfl⟩
theorem orAImm (data : Byte) : Statement (.orAImm data) := ⟨Nat.le_of_ble_eq_true rfl, Nat.le_of_ble_eq_true rfl⟩
theorem orSaddrImm (sa : Byte) (data : Byte) : Statement (.orSaddrImm sa data) :=
  ⟨Nat.le_of_ble_eq_true rfl, Nat.le_of_ble_eq_true rfl⟩
theorem orAR (r : Reg) : Statement (.orAR r) := ⟨Nat.le_of_ble_eq_true rfl, Nat.le_of_ble_eq_true rfl⟩
theorem orRA (r : Reg) : Statement (.orRA r) := ⟨Nat.le_of_ble_eq_true rfl, Nat.le_of_ble_eq_true rfl⟩
theorem orASaddr (sa : Byte) : Statement (.orASaddr sa) := ⟨Nat.le_of_ble_eq_true rfl, Nat.le_of_ble_eq_true rfl⟩
theorem orAAbs (addr : Word) : Statement (.orAAbs addr) := ⟨Nat.le_of_ble_eq_true rfl, Nat.le_of_ble_eq_true rfl⟩
theorem orAEsAbs (addr : Word) : Statement (.orAEsAbs addr) := ⟨Nat.le_of_ble_eq_true rfl, Nat.le_of_ble_eq_true rfl⟩
theorem orAAtHl : Statement .orAAtHl := ⟨Nat.le_of_ble_eq_true rfl, Nat.le_of_ble_eq_true rfl⟩
theorem orAEsAtHl : Statement .orAEsAtHl := ⟨Nat.le_of_ble_eq_true rfl, Nat.le_of_ble_eq_true rfl⟩
theorem orAHlOff (off : Byte) : Statement (.orAHlOff off) := ⟨Nat.le_of_ble_eq_true rfl, Nat.le_of_ble_eq_true rfl⟩
theorem orAEsHlOff (off : Byte) : Statement (.orAEsHlOff off) := ⟨Nat.le_of_ble_eq_true rfl, Nat.le_of_ble_eq_true rfl⟩
theorem orAHlB : Statement .orAHlB := ⟨Nat.le_of_ble_eq_true rfl, Nat.le_of_ble_eq_true rfl⟩
theorem orAEsHlB : Statement .orAEsHlB := ⟨Nat.le_of_ble_eq_true rfl, Nat.le_of_ble_eq_true rfl⟩
theorem orAHlC : Statement .orAHlC := ⟨Nat.le_of_ble_eq_true rfl, Nat.le_of_ble_eq_true rfl⟩
theorem orAEsHlC : Statement .orAEsHlC := ⟨Nat.le_of_ble_eq_true rfl, Nat.le_of_ble_eq_true rfl⟩
theorem xorAImm (data : Byte) : Statement (.xorAImm data) := ⟨Nat.le_of_ble_eq_true rfl, Nat.le_of_ble_eq_true rfl⟩
theorem xorSaddrImm (sa : Byte) (data : Byte) : Statement (.xorSaddrImm sa data) :=
  ⟨Nat.le_of_ble_eq_true rfl, Nat.le_of_ble_eq_true rfl⟩
theorem xorAR (r : Reg) : Statement (.xorAR r) := ⟨Nat.le_of_ble_eq_true rfl, Nat.le_of_ble_eq_true rfl⟩
theorem xorRA (r : Reg) : Statement (.xorRA r) := ⟨Nat.le_of_ble_eq_true rfl, Nat.le_of_ble_eq_true rfl⟩
theorem xorASaddr (sa : Byte) : Statement (.xorASaddr sa) := ⟨Nat.le_of_ble_eq_true rfl, Nat.le_of_ble_eq_true rfl⟩
theorem xorAAbs (addr : Word) : Statement (.xorAAbs addr) := ⟨Nat.le_of_ble_eq_true rfl, Nat.le_of_ble_eq_true rfl⟩
theorem xorAEsAbs (addr : Word) : Statement (.xorAEsAbs addr) := ⟨Nat.le_of_ble_eq_true rfl, Nat.le_of_ble_eq_true rfl⟩
theorem xorAAtHl : Statement .xorAAtHl := ⟨Nat.le_of_ble_eq_true rfl, Nat.le_of_ble_eq_true rfl⟩
theorem xorAEsAtHl : Statement .xorAEsAtHl := ⟨Nat.le_of_ble_eq_true rfl, Nat.le_of_ble_eq_true rfl⟩
theorem xorAHlOff (off : Byte) : Statement (.xorAHlOff off) := ⟨Nat.le_of_ble_eq_true rfl, Nat.le_of_ble_eq_true rfl⟩
theorem xorAEsHlOff (off : Byte) : Statement (.xorAEsHlOff off) :=
  ⟨Nat.le_of_ble_eq_true rfl, Nat.le_of_ble_eq_true rfl⟩
theorem xorAHlB : Statement .xorAHlB := ⟨Nat.le_of_ble_eq_true rfl, Nat.le_of_ble_eq_true rfl⟩
theorem xorAEsHlB : Statement .xorAEsHlB := ⟨Nat.le_of_ble_eq_true rfl, Nat.le_of_ble_eq_true rfl⟩
theorem xorAHlC : Statement .xorAHlC := ⟨Nat.le_of_ble_eq_true rfl, Nat.le_of_ble_eq_true rfl⟩
theorem xorAEsHlC : Statement .xorAEsHlC := ⟨Nat.le_of_ble_eq_true rfl, Nat.le_of_ble_eq_true rfl⟩
theorem cmpAbsImm (addr : Word) (data : Byte) : Statement (.cmpAbsImm addr data) :=
  ⟨Nat.le_of_ble_eq_true rfl, Nat.le_of_ble_eq_true rfl⟩
theorem cmpEsAbsImm (addr : Word) (data : Byte) : Statement (.cmpEsAbsImm addr data) :=
  ⟨Nat.le_of_ble_eq_true rfl, Nat.le_of_ble_eq_true rfl⟩
theorem cmp0R (r : Reg) : Statement (.cmp0R r) := ⟨Nat.le_of_ble_eq_true rfl, Nat.le_of_ble_eq_true rfl⟩
theorem cmp0Saddr (sa : Byte) : Statement (.cmp0Saddr sa) := ⟨Nat.le_of_ble_eq_true rfl, Nat.le_of_ble_eq_true rfl⟩
theorem cmp0Abs (addr : Word) : Statement (.cmp0Abs addr) := ⟨Nat.le_of_ble_eq_true rfl, Nat.le_of_ble_eq_true rfl⟩
theorem cmp0EsAbs (addr : Word) : Statement (.cmp0EsAbs addr) := ⟨Nat.le_of_ble_eq_true rfl, Nat.le_of_ble_eq_true rfl⟩
theorem cmpsXHlOff (off : Byte) : Statement (.cmpsXHlOff off) := ⟨Nat.le_of_ble_eq_true rfl, Nat.le_of_ble_eq_true rfl⟩
theorem cmpsXEsHlOff (off : Byte) : Statement (.cmpsXEsHlOff off) :=
  ⟨Nat.le_of_ble_eq_true rfl, Nat.le_of_ble_eq_true rfl⟩
theorem addwAxImm (data : Word) : Statement (.addwAxImm data) := ⟨Nat.le_of_ble_eq_true rfl, Nat.le_of_ble_eq_true rfl⟩
theorem addwAxRp (rp : RegPair) : Statement (.addwAxRp rp) := ⟨Nat.le_of_ble_eq_true rfl, Nat.le_of_ble_eq_true rfl⟩
theorem addwAxSaddrp (sa : Byte) : Statement (.addwAxSaddrp sa) :=
  ⟨Nat.le_of_ble_eq_true rfl, Nat.le_of_ble_eq_true rfl⟩
theorem addwAxAbs (addr : Word) : Statement (.addwAxAbs addr) := ⟨Nat.le_of_ble_eq_true rfl, Nat.le_of_ble_eq_true rfl⟩
theorem addwAxEsAbs (addr : Word) : Statement (.addwAxEsAbs addr) :=
  ⟨Nat.le_of_ble_eq_true rfl, Nat.le_of_ble_eq_true rfl⟩
theorem addwAxHlOff (off : Byte) : Statement (.addwAxHlOff off) :=
  ⟨Nat.le_of_ble_eq_true rfl, Nat.le_of_ble_eq_true rfl⟩
theorem addwAxEsHlOff (off : Byte) : Statement (.addwAxEsHlOff off) :=
  ⟨Nat.le_of_ble_eq_true rfl, Nat.le_of_ble_eq_true rfl⟩
theorem subwAxImm (data : Word) : Statement (.subwAxImm data) := ⟨Nat.le_of_ble_eq_true rfl, Nat.le_of_ble_eq_true rfl⟩
theorem subwAxRp (rp : RegPair) : Statement (.subwAxRp rp) := ⟨Nat.le_of_ble_eq_true rfl, Nat.le_of_ble_eq_true rfl⟩
theorem subwAxSaddrp (sa : Byte) : Statement (.subwAxSaddrp sa) :=
  ⟨Nat.le_of_ble_eq_true rfl, Nat.le_of_ble_eq_true rfl⟩
theorem subwAxAbs (addr : Word) : Statement (.subwAxAbs addr) := ⟨Nat.le_of_ble_eq_true rfl, Nat.le_of_ble_eq_true rfl⟩
theorem subwAxEsAbs (addr : Word) : Statement (.subwAxEsAbs addr) :=
  ⟨Nat.le_of_ble_eq_true rfl, Nat.le_of_ble_eq_true rfl⟩
theorem subwAxHlOff (off : Byte) : Statement (.subwAxHlOff off) :=
  ⟨Nat.le_of_ble_eq_true rfl, Nat.le_of_ble_eq_true rfl⟩
theorem subwAxEsHlOff (off : Byte) : Statement (.subwAxEsHlOff off) :=
  ⟨Nat.le_of_ble_eq_true rfl, Nat.le_of_ble_eq_true rfl⟩
theorem cmpwAxImm (data : Word) : Statement (.cmpwAxImm data) := ⟨Nat.le_of_ble_eq_true rfl, Nat.le_of_ble_eq_true rfl⟩
theorem cmpwAxRp (rp : RegPair) : Statement (.cmpwAxRp rp) := ⟨Nat.le_of_ble_eq_true rfl, Nat.le_of_ble_eq_true rfl⟩
theorem cmpwAxSaddrp (sa : Byte) : Statement (.cmpwAxSaddrp sa) :=
  ⟨Nat.le_of_ble_eq_true rfl, Nat.le_of_ble_eq_true rfl⟩
theorem cmpwAxAbs (addr : Word) : Statement (.cmpwAxAbs addr) := ⟨Nat.le_of_ble_eq_true rfl, Nat.le_of_ble_eq_true rfl⟩
theorem cmpwAxEsAbs (addr : Word) : Statement (.cmpwAxEsAbs addr) :=
  ⟨Nat.le_of_ble_eq_true rfl, Nat.le_of_ble_eq_true rfl⟩
theorem cmpwAxHlOff (off : Byte) : Statement (.cmpwAxHlOff off) :=
  ⟨Nat.le_of_ble_eq_true rfl, Nat.le_of_ble_eq_true rfl⟩
theorem cmpwAxEsHlOff (off : Byte) : Statement (.cmpwAxEsHlOff off) :=
  ⟨Nat.le_of_ble_eq_true rfl, Nat.le_of_ble_eq_true rfl⟩
theorem muluX : Statement .muluX := ⟨Nat.le_of_ble_eq_true rfl, Nat.le_of_ble_eq_true rfl⟩
theorem mulhu : Statement .mulhu := ⟨Nat.le_of_ble_eq_true rfl, Nat.le_of_ble_eq_true rfl⟩
theorem mulh : Statement .mulh := ⟨Nat.le_of_ble_eq_true rfl, Nat.le_of_ble_eq_true rfl⟩
theorem divhu : Statement .divhu := ⟨Nat.le_of_ble_eq_true rfl, Nat.le_of_ble_eq_true rfl⟩
theorem divwu : Statement .divwu := ⟨Nat.le_of_ble_eq_true rfl, Nat.le_of_ble_eq_true rfl⟩
theorem machu : Statement .machu := ⟨Nat.le_of_ble_eq_true rfl, Nat.le_of_ble_eq_true rfl⟩
theorem mach : Statement .mach := ⟨Nat.le_of_ble_eq_true rfl, Nat.le_of_ble_eq_true rfl⟩
theorem incR (r : Reg) : Statement (.incR r) := ⟨Nat.le_of_ble_eq_true rfl, Nat.le_of_ble_eq_true rfl⟩
theorem incSaddr (sa : Byte) : Statement (.incSaddr sa) := ⟨Nat.le_of_ble_eq_true rfl, Nat.le_of_ble_eq_true rfl⟩
theorem incAbs (addr : Word) : Statement (.incAbs addr) := ⟨Nat.le_of_ble_eq_true rfl, Nat.le_of_ble_eq_true rfl⟩
theorem incEsAbs (addr : Word) : Statement (.incEsAbs addr) := ⟨Nat.le_of_ble_eq_true rfl, Nat.le_of_ble_eq_true rfl⟩
theorem incHlOff (off : Byte) : Statement (.incHlOff off) := ⟨Nat.le_of_ble_eq_true rfl, Nat.le_of_ble_eq_true rfl⟩
theorem incEsHlOff (off : Byte) : Statement (.incEsHlOff off) := ⟨Nat.le_of_ble_eq_true rfl, Nat.le_of_ble_eq_true rfl⟩
theorem decR (r : Reg) : Statement (.decR r) := ⟨Nat.le_of_ble_eq_true rfl, Nat.le_of_ble_eq_true rfl⟩
theorem decSaddr (sa : Byte) : Statement (.decSaddr sa) := ⟨Nat.le_of_ble_eq_true rfl, Nat.le_of_ble_eq_true rfl⟩
theorem decAbs (addr : Word) : Statement (.decAbs addr) := ⟨Nat.le_of_ble_eq_true rfl, Nat.le_of_ble_eq_true rfl⟩
theorem decEsAbs (addr : Word) : Statement (.decEsAbs addr) := ⟨Nat.le_of_ble_eq_true rfl, Nat.le_of_ble_eq_true rfl⟩
theorem decHlOff (off : Byte) : Statement (.decHlOff off) := ⟨Nat.le_of_ble_eq_true rfl, Nat.le_of_ble_eq_true rfl⟩
theorem decEsHlOff (off : Byte) : Statement (.decEsHlOff off) := ⟨Nat.le_of_ble_eq_true rfl, Nat.le_of_ble_eq_true rfl⟩
theorem incwRp (rp : RegPair) : Statement (.incwRp rp) := ⟨Nat.le_of_ble_eq_true rfl, Nat.le_of_ble_eq_true rfl⟩
theorem incwSaddrp (sa : Byte) : Statement (.incwSaddrp sa) := ⟨Nat.le_of_ble_eq_true rfl, Nat.le_of_ble_eq_true rfl⟩
theorem incwAbs (addr : Word) : Statement (.incwAbs addr) := ⟨Nat.le_of_ble_eq_true rfl, Nat.le_of_ble_eq_true rfl⟩
theorem incwEsAbs (addr : Word) : Statement (.incwEsAbs addr) := ⟨Nat.le_of_ble_eq_true rfl, Nat.le_of_ble_eq_true rfl⟩
theorem incwHlOff (off : Byte) : Statement (.incwHlOff off) := ⟨Nat.le_of_ble_eq_true rfl, Nat.le_of_ble_eq_true rfl⟩
theorem incwEsHlOff (off : Byte) : Statement (.incwEsHlOff off) :=
  ⟨Nat.le_of_ble_eq_true rfl, Nat.le_of_ble_eq_true rfl⟩
theorem decwRp (rp : RegPair) : Statement (.decwRp rp) := ⟨Nat.le_of_ble_eq_true rfl, Nat.le_of_ble_eq_true rfl⟩
theorem decwSaddrp (sa : Byte) : Statement (.decwSaddrp sa) := ⟨Nat.le_of_ble_eq_true rfl, Nat.le_of_ble_eq_true rfl⟩
theorem decwAbs (addr : Word) : Statement (.decwAbs addr) := ⟨Nat.le_of_ble_eq_true rfl, Nat.le_of_ble_eq_true rfl⟩
theorem decwEsAbs (addr : Word) : Statement (.decwEsAbs addr) := ⟨Nat.le_of_ble_eq_true rfl, Nat.le_of_ble_eq_true rfl⟩
theorem decwHlOff (off : Byte) : Statement (.decwHlOff off) := ⟨Nat.le_of_ble_eq_true rfl, Nat.le_of_ble_eq_true rfl⟩
theorem decwEsHlOff (off : Byte) : Statement (.decwEsHlOff off) :=
  ⟨Nat.le_of_ble_eq_true rfl, Nat.le_of_ble_eq_true rfl⟩
theorem shrA (cnt : Fin 16) : Statement (.shrA cnt) := ⟨Nat.le_of_ble_eq_true rfl, Nat.le_of_ble_eq_true rfl⟩
theorem shrwAx (cnt : Fin 16) : Statement (.shrwAx cnt) := ⟨Nat.le_of_ble_eq_true rfl, Nat.le_of_ble_eq_true rfl⟩
theorem shlA (cnt : Fin 16) : Statement (.shlA cnt) := ⟨Nat.le_of_ble_eq_true rfl, Nat.le_of_ble_eq_true rfl⟩
theorem shlB (cnt : Fin 16) : Statement (.shlB cnt) := ⟨Nat.le_of_ble_eq_true rfl, Nat.le_of_ble_eq_true rfl⟩
theorem shlC (cnt : Fin 16) : Statement (.shlC cnt) := ⟨Nat.le_of_ble_eq_true rfl, Nat.le_of_ble_eq_true rfl⟩
theorem shlwAx (cnt : Fin 16) : Statement (.shlwAx cnt) := ⟨Nat.le_of_ble_eq_true rfl, Nat.le_of_ble_eq_true rfl⟩
theorem shlwBc (cnt : Fin 16) : Statement (.shlwBc cnt) := ⟨Nat.le_of_ble_eq_true rfl, Nat.le_of_ble_eq_true rfl⟩
theorem sarA (cnt : Fin 16) : Statement (.sarA cnt) := ⟨Nat.le_of_ble_eq_true rfl, Nat.le_of_ble_eq_true rfl⟩
theorem sarwAx (cnt : Fin 16) : Statement (.sarwAx cnt) := ⟨Nat.le_of_ble_eq_true rfl, Nat.le_of_ble_eq_true rfl⟩
theorem rorA : Statement .rorA := ⟨Nat.le_of_ble_eq_true rfl, Nat.le_of_ble_eq_true rfl⟩
theorem rolA : Statement .rolA := ⟨Nat.le_of_ble_eq_true rfl, Nat.le_of_ble_eq_true rfl⟩
theorem rorcA : Statement .rorcA := ⟨Nat.le_of_ble_eq_true rfl, Nat.le_of_ble_eq_true rfl⟩
theorem rolcA : Statement .rolcA := ⟨Nat.le_of_ble_eq_true rfl, Nat.le_of_ble_eq_true rfl⟩
theorem rolwcAx : Statement .rolwcAx := ⟨Nat.le_of_ble_eq_true rfl, Nat.le_of_ble_eq_true rfl⟩
theorem rolwcBc : Statement .rolwcBc := ⟨Nat.le_of_ble_eq_true rfl, Nat.le_of_ble_eq_true rfl⟩
theorem mov1CyABit (bit : Fin 8) : Statement (.mov1CyABit bit) := ⟨Nat.le_of_ble_eq_true rfl, Nat.le_of_ble_eq_true rfl⟩
theorem mov1ABitCy (bit : Fin 8) : Statement (.mov1ABitCy bit) := ⟨Nat.le_of_ble_eq_true rfl, Nat.le_of_ble_eq_true rfl⟩
theorem mov1CyPswBit (bit : Fin 8) : Statement (.mov1CyPswBit bit) :=
  ⟨Nat.le_of_ble_eq_true rfl, Nat.le_of_ble_eq_true rfl⟩
theorem mov1PswBitCy (bit : Fin 8) : Statement (.mov1PswBitCy bit) :=
  ⟨Nat.le_of_ble_eq_true rfl, Nat.le_of_ble_eq_true rfl⟩
theorem mov1CySaddrBit (sa : Byte) (bit : Fin 8) : Statement (.mov1CySaddrBit sa bit) :=
  ⟨Nat.le_of_ble_eq_true rfl, Nat.le_of_ble_eq_true rfl⟩
theorem mov1SaddrBitCy (sa : Byte) (bit : Fin 8) : Statement (.mov1SaddrBitCy sa bit) :=
  ⟨Nat.le_of_ble_eq_true rfl, Nat.le_of_ble_eq_true rfl⟩
theorem mov1CySfrBit (sf : Byte) (bit : Fin 8) : Statement (.mov1CySfrBit sf bit) :=
  ⟨Nat.le_of_ble_eq_true rfl, Nat.le_of_ble_eq_true rfl⟩
theorem mov1SfrBitCy (sf : Byte) (bit : Fin 8) : Statement (.mov1SfrBitCy sf bit) :=
  ⟨Nat.le_of_ble_eq_true rfl, Nat.le_of_ble_eq_true rfl⟩
theorem mov1CyHlBit (bit : Fin 8) : Statement (.mov1CyHlBit bit) :=
  ⟨Nat.le_of_ble_eq_true rfl, Nat.le_of_ble_eq_true rfl⟩
theorem mov1CyEsHlBit (bit : Fin 8) : Statement (.mov1CyEsHlBit bit) :=
  ⟨Nat.le_of_ble_eq_true rfl, Nat.le_of_ble_eq_true rfl⟩
theorem mov1HlBitCy (bit : Fin 8) : Statement (.mov1HlBitCy bit) :=
  ⟨Nat.le_of_ble_eq_true rfl, Nat.le_of_ble_eq_true rfl⟩
theorem mov1EsHlBitCy (bit : Fin 8) : Statement (.mov1EsHlBitCy bit) :=
  ⟨Nat.le_of_ble_eq_true rfl, Nat.le_of_ble_eq_true rfl⟩
theorem and1CyABit (bit : Fin 8) : Statement (.and1CyABit bit) := ⟨Nat.le_of_ble_eq_true rfl, Nat.le_of_ble_eq_true rfl⟩
theorem and1CyPswBit (bit : Fin 8) : Statement (.and1CyPswBit bit) :=
  ⟨Nat.le_of_ble_eq_true rfl, Nat.le_of_ble_eq_true rfl⟩
theorem and1CySaddrBit (sa : Byte) (bit : Fin 8) : Statement (.and1CySaddrBit sa bit) :=
  ⟨Nat.le_of_ble_eq_true rfl, Nat.le_of_ble_eq_true rfl⟩
theorem and1CySfrBit (sf : Byte) (bit : Fin 8) : Statement (.and1CySfrBit sf bit) :=
  ⟨Nat.le_of_ble_eq_true rfl, Nat.le_of_ble_eq_true rfl⟩
theorem and1CyHlBit (bit : Fin 8) : Statement (.and1CyHlBit bit) :=
  ⟨Nat.le_of_ble_eq_true rfl, Nat.le_of_ble_eq_true rfl⟩
theorem and1CyEsHlBit (bit : Fin 8) : Statement (.and1CyEsHlBit bit) :=
  ⟨Nat.le_of_ble_eq_true rfl, Nat.le_of_ble_eq_true rfl⟩
theorem or1CyABit (bit : Fin 8) : Statement (.or1CyABit bit) := ⟨Nat.le_of_ble_eq_true rfl, Nat.le_of_ble_eq_true rfl⟩
theorem or1CyPswBit (bit : Fin 8) : Statement (.or1CyPswBit bit) :=
  ⟨Nat.le_of_ble_eq_true rfl, Nat.le_of_ble_eq_true rfl⟩
theorem or1CySaddrBit (sa : Byte) (bit : Fin 8) : Statement (.or1CySaddrBit sa bit) :=
  ⟨Nat.le_of_ble_eq_true rfl, Nat.le_of_ble_eq_true rfl⟩
theorem or1CySfrBit (sf : Byte) (bit : Fin 8) : Statement (.or1CySfrBit sf bit) :=
  ⟨Nat.le_of_ble_eq_true rfl, Nat.le_of_ble_eq_true rfl⟩
theorem or1CyHlBit (bit : Fin 8) : Statement (.or1CyHlBit bit) := ⟨Nat.le_of_ble_eq_true rfl, Nat.le_of_ble_eq_true rfl⟩
theorem or1CyEsHlBit (bit : Fin 8) : Statement (.or1CyEsHlBit bit) :=
  ⟨Nat.le_of_ble_eq_true rfl, Nat.le_of_ble_eq_true rfl⟩
theorem xor1CyABit (bit : Fin 8) : Statement (.xor1CyABit bit) := ⟨Nat.le_of_ble_eq_true rfl, Nat.le_of_ble_eq_true rfl⟩
theorem xor1CyPswBit (bit : Fin 8) : Statement (.xor1CyPswBit bit) :=
  ⟨Nat.le_of_ble_eq_true rfl, Nat.le_of_ble_eq_true rfl⟩
theorem xor1CySaddrBit (sa : Byte) (bit : Fin 8) : Statement (.xor1CySaddrBit sa bit) :=
  ⟨Nat.le_of_ble_eq_true rfl, Nat.le_of_ble_eq_true rfl⟩
theorem xor1CySfrBit (sf : Byte) (bit : Fin 8) : Statement (.xor1CySfrBit sf bit) :=
  ⟨Nat.le_of_ble_eq_true rfl, Nat.le_of_ble_eq_true rfl⟩
theorem xor1CyHlBit (bit : Fin 8) : Statement (.xor1CyHlBit bit) :=
  ⟨Nat.le_of_ble_eq_true rfl, Nat.le_of_ble_eq_true rfl⟩
theorem xor1CyEsHlBit (bit : Fin 8) : Statement (.xor1CyEsHlBit bit) :=
  ⟨Nat.le_of_ble_eq_true rfl, Nat.le_of_ble_eq_true rfl⟩
theorem set1ABit (bit : Fin 8) : Statement (.set1ABit bit) := ⟨Nat.le_of_ble_eq_true rfl, Nat.le_of_ble_eq_true rfl⟩
theorem set1PswBit (bit : Fin 8) : Statement (.set1PswBit bit) := ⟨Nat.le_of_ble_eq_true rfl, Nat.le_of_ble_eq_true rfl⟩
theorem set1AbsBit (addr : Word) (bit : Fin 8) : Statement (.set1AbsBit addr bit) :=
  ⟨Nat.le_of_ble_eq_true rfl, Nat.le_of_ble_eq_true rfl⟩
theorem set1EsAbsBit (addr : Word) (bit : Fin 8) : Statement (.set1EsAbsBit addr bit) :=
  ⟨Nat.le_of_ble_eq_true rfl, Nat.le_of_ble_eq_true rfl⟩
theorem set1SaddrBit (sa : Byte) (bit : Fin 8) : Statement (.set1SaddrBit sa bit) :=
  ⟨Nat.le_of_ble_eq_true rfl, Nat.le_of_ble_eq_true rfl⟩
theorem set1SfrBit (sf : Byte) (bit : Fin 8) : Statement (.set1SfrBit sf bit) :=
  ⟨Nat.le_of_ble_eq_true rfl, Nat.le_of_ble_eq_true rfl⟩
theorem set1HlBit (bit : Fin 8) : Statement (.set1HlBit bit) := ⟨Nat.le_of_ble_eq_true rfl, Nat.le_of_ble_eq_true rfl⟩
theorem set1EsHlBit (bit : Fin 8) : Statement (.set1EsHlBit bit) :=
  ⟨Nat.le_of_ble_eq_true rfl, Nat.le_of_ble_eq_true rfl⟩
theorem clr1ABit (bit : Fin 8) : Statement (.clr1ABit bit) := ⟨Nat.le_of_ble_eq_true rfl, Nat.le_of_ble_eq_true rfl⟩
theorem clr1PswBit (bit : Fin 8) : Statement (.clr1PswBit bit) := ⟨Nat.le_of_ble_eq_true rfl, Nat.le_of_ble_eq_true rfl⟩
theorem clr1AbsBit (addr : Word) (bit : Fin 8) : Statement (.clr1AbsBit addr bit) :=
  ⟨Nat.le_of_ble_eq_true rfl, Nat.le_of_ble_eq_true rfl⟩
theorem clr1EsAbsBit (addr : Word) (bit : Fin 8) : Statement (.clr1EsAbsBit addr bit) :=
  ⟨Nat.le_of_ble_eq_true rfl, Nat.le_of_ble_eq_true rfl⟩
theorem clr1SaddrBit (sa : Byte) (bit : Fin 8) : Statement (.clr1SaddrBit sa bit) :=
  ⟨Nat.le_of_ble_eq_true rfl, Nat.le_of_ble_eq_true rfl⟩
theorem clr1SfrBit (sf : Byte) (bit : Fin 8) : Statement (.clr1SfrBit sf bit) :=
  ⟨Nat.le_of_ble_eq_true rfl, Nat.le_of_ble_eq_true rfl⟩
theorem clr1HlBit (bit : Fin 8) : Statement (.clr1HlBit bit) := ⟨Nat.le_of_ble_eq_true rfl, Nat.le_of_ble_eq_true rfl⟩
theorem clr1EsHlBit (bit : Fin 8) : Statement (.clr1EsHlBit bit) :=
  ⟨Nat.le_of_ble_eq_true rfl, Nat.le_of_ble_eq_true rfl⟩
theorem set1Cy : Statement .set1Cy := ⟨Nat.le_of_ble_eq_true rfl, Nat.le_of_ble_eq_true rfl⟩
theorem clr1Cy : Statement .clr1Cy := ⟨Nat.le_of_ble_eq_true rfl, Nat.le_of_ble_eq_true rfl⟩
theorem not1Cy : Statement .not1Cy := ⟨Nat.le_of_ble_eq_true rfl, Nat.le_of_ble_eq_true rfl⟩
theorem callRp (rp : RegPair) : Statement (.callRp rp) := ⟨Nat.le_of_ble_eq_true rfl, Nat.le_of_ble_eq_true rfl⟩
theorem callRel16 (disp : Word) : Statement (.callRel16 disp) := ⟨Nat.le_of_ble_eq_true rfl, Nat.le_of_ble_eq_true rfl⟩
theorem callAbs16 (addr : Word) : Statement (.callAbs16 addr) := ⟨Nat.le_of_ble_eq_true rfl, Nat.le_of_ble_eq_true rfl⟩
theorem callAbs20 (target : Addr) : Statement (.callAbs20 target) :=
  ⟨Nat.le_of_ble_eq_true rfl, Nat.le_of_ble_eq_true rfl⟩
theorem callt (k : Fin 32) : Statement (.callt k) := ⟨Nat.le_of_ble_eq_true rfl, Nat.le_of_ble_eq_true rfl⟩
theorem brk : Statement .brk := ⟨Nat.le_of_ble_eq_true rfl, Nat.le_of_ble_eq_true rfl⟩
theorem ret : Statement .ret := ⟨Nat.le_of_ble_eq_true rfl, Nat.le_of_ble_eq_true rfl⟩
theorem reti : Statement .reti := ⟨Nat.le_of_ble_eq_true rfl, Nat.le_of_ble_eq_true rfl⟩
theorem retb : Statement .retb := ⟨Nat.le_of_ble_eq_true rfl, Nat.le_of_ble_eq_true rfl⟩
theorem pushPsw : Statement .pushPsw := ⟨Nat.le_of_ble_eq_true rfl, Nat.le_of_ble_eq_true rfl⟩
theorem pushRp (rp : RegPair) : Statement (.pushRp rp) := ⟨Nat.le_of_ble_eq_true rfl, Nat.le_of_ble_eq_true rfl⟩
theorem popPsw : Statement .popPsw := ⟨Nat.le_of_ble_eq_true rfl, Nat.le_of_ble_eq_true rfl⟩
theorem popRp (rp : RegPair) : Statement (.popRp rp) := ⟨Nat.le_of_ble_eq_true rfl, Nat.le_of_ble_eq_true rfl⟩
theorem movwSpImm (data : Word) : Statement (.movwSpImm data) := ⟨Nat.le_of_ble_eq_true rfl, Nat.le_of_ble_eq_true rfl⟩
theorem movwSpAx : Statement .movwSpAx := ⟨Nat.le_of_ble_eq_true rfl, Nat.le_of_ble_eq_true rfl⟩
theorem movwAxSp : Statement .movwAxSp := ⟨Nat.le_of_ble_eq_true rfl, Nat.le_of_ble_eq_true rfl⟩
theorem movwRpSp (rp : RegPair) : Statement (.movwRpSp rp) := ⟨Nat.le_of_ble_eq_true rfl, Nat.le_of_ble_eq_true rfl⟩
theorem addwSpImm (data : Byte) : Statement (.addwSpImm data) := ⟨Nat.le_of_ble_eq_true rfl, Nat.le_of_ble_eq_true rfl⟩
theorem subwSpImm (data : Byte) : Statement (.subwSpImm data) := ⟨Nat.le_of_ble_eq_true rfl, Nat.le_of_ble_eq_true rfl⟩
theorem brAx : Statement .brAx := ⟨Nat.le_of_ble_eq_true rfl, Nat.le_of_ble_eq_true rfl⟩
theorem brRel8 (disp : Byte) : Statement (.brRel8 disp) := ⟨Nat.le_of_ble_eq_true rfl, Nat.le_of_ble_eq_true rfl⟩
theorem brRel16 (disp : Word) : Statement (.brRel16 disp) := ⟨Nat.le_of_ble_eq_true rfl, Nat.le_of_ble_eq_true rfl⟩
theorem brAbs16 (addr : Word) : Statement (.brAbs16 addr) := ⟨Nat.le_of_ble_eq_true rfl, Nat.le_of_ble_eq_true rfl⟩
theorem brAbs20 (target : Addr) : Statement (.brAbs20 target) := ⟨Nat.le_of_ble_eq_true rfl, Nat.le_of_ble_eq_true rfl⟩
theorem bc (disp : Byte) : Statement (.bc disp) := ⟨Nat.le_of_ble_eq_true rfl, Nat.le_of_ble_eq_true rfl⟩
theorem bnc (disp : Byte) : Statement (.bnc disp) := ⟨Nat.le_of_ble_eq_true rfl, Nat.le_of_ble_eq_true rfl⟩
theorem bz (disp : Byte) : Statement (.bz disp) := ⟨Nat.le_of_ble_eq_true rfl, Nat.le_of_ble_eq_true rfl⟩
theorem bnz (disp : Byte) : Statement (.bnz disp) := ⟨Nat.le_of_ble_eq_true rfl, Nat.le_of_ble_eq_true rfl⟩
theorem bh (disp : Byte) : Statement (.bh disp) := ⟨Nat.le_of_ble_eq_true rfl, Nat.le_of_ble_eq_true rfl⟩
theorem bnh (disp : Byte) : Statement (.bnh disp) := ⟨Nat.le_of_ble_eq_true rfl, Nat.le_of_ble_eq_true rfl⟩
theorem btSaddrBit (sa : Byte) (bit : Fin 8) (disp : Byte) : Statement (.btSaddrBit sa bit disp) :=
  ⟨Nat.le_of_ble_eq_true rfl, Nat.le_of_ble_eq_true rfl⟩
theorem btSfrBit (sf : Byte) (bit : Fin 8) (disp : Byte) : Statement (.btSfrBit sf bit disp) :=
  ⟨Nat.le_of_ble_eq_true rfl, Nat.le_of_ble_eq_true rfl⟩
theorem btABit (bit : Fin 8) (disp : Byte) : Statement (.btABit bit disp) :=
  ⟨Nat.le_of_ble_eq_true rfl, Nat.le_of_ble_eq_true rfl⟩
theorem btPswBit (bit : Fin 8) (disp : Byte) : Statement (.btPswBit bit disp) :=
  ⟨Nat.le_of_ble_eq_true rfl, Nat.le_of_ble_eq_true rfl⟩
theorem btHlBit (bit : Fin 8) (disp : Byte) : Statement (.btHlBit bit disp) :=
  ⟨Nat.le_of_ble_eq_true rfl, Nat.le_of_ble_eq_true rfl⟩
theorem btEsHlBit (bit : Fin 8) (disp : Byte) : Statement (.btEsHlBit bit disp) :=
  ⟨Nat.le_of_ble_eq_true rfl, Nat.le_of_ble_eq_true rfl⟩
theorem bfSaddrBit (sa : Byte) (bit : Fin 8) (disp : Byte) : Statement (.bfSaddrBit sa bit disp) :=
  ⟨Nat.le_of_ble_eq_true rfl, Nat.le_of_ble_eq_true rfl⟩
theorem bfSfrBit (sf : Byte) (bit : Fin 8) (disp : Byte) : Statement (.bfSfrBit sf bit disp) :=
  ⟨Nat.le_of_ble_eq_true rfl, Nat.le_of_ble_eq_true rfl⟩
theorem bfABit (bit : Fin 8) (disp : Byte) : Statement (.bfABit bit disp) :=
  ⟨Nat.le_of_ble_eq_true rfl, Nat.le_of_ble_eq_true rfl⟩
theorem bfPswBit (bit : Fin 8) (disp : Byte) : Statement (.bfPswBit bit disp) :=
  ⟨Nat.le_of_ble_eq_true rfl, Nat.le_of_ble_eq_true rfl⟩
theorem bfHlBit (bit : Fin 8) (disp : Byte) : Statement (.bfHlBit bit disp) :=
  ⟨Nat.le_of_ble_eq_true rfl, Nat.le_of_ble_eq_true rfl⟩
theorem bfEsHlBit (bit : Fin 8) (disp : Byte) : Statement (.bfEsHlBit bit disp) :=
  ⟨Nat.le_of_ble_eq_true rfl, Nat.le_of_ble_eq_true rfl⟩
theorem btclrSaddrBit (sa : Byte) (bit : Fin 8) (disp : Byte) : Statement (.btclrSaddrBit sa bit disp) :=
  ⟨Nat.le_of_ble_eq_true rfl, Nat.le_of_ble_eq_true rfl⟩
theorem btclrSfrBit (sf : Byte) (bit : Fin 8) (disp : Byte) : Statement (.btclrSfrBit sf bit disp) :=
  ⟨Nat.le_of_ble_eq_true rfl, Nat.le_of_ble_eq_true rfl⟩
theorem btclrABit (bit : Fin 8) (disp : Byte) : Statement (.btclrABit bit disp) :=
  ⟨Nat.le_of_ble_eq_true rfl, Nat.le_of_ble_eq_true rfl⟩
theorem btclrPswBit (bit : Fin 8) (disp : Byte) : Statement (.btclrPswBit bit disp) :=
  ⟨Nat.le_of_ble_eq_true rfl, Nat.le_of_ble_eq_true rfl⟩
theorem btclrHlBit (bit : Fin 8) (disp : Byte) : Statement (.btclrHlBit bit disp) :=
  ⟨Nat.le_of_ble_eq_true rfl, Nat.le_of_ble_eq_true rfl⟩
theorem btclrEsHlBit (bit : Fin 8) (disp : Byte) : Statement (.btclrEsHlBit bit disp) :=
  ⟨Nat.le_of_ble_eq_true rfl, Nat.le_of_ble_eq_true rfl⟩
theorem skc : Statement .skc := ⟨Nat.le_of_ble_eq_true rfl, Nat.le_of_ble_eq_true rfl⟩
theorem sknc : Statement .sknc := ⟨Nat.le_of_ble_eq_true rfl, Nat.le_of_ble_eq_true rfl⟩
theorem skz : Statement .skz := ⟨Nat.le_of_ble_eq_true rfl, Nat.le_of_ble_eq_true rfl⟩
theorem sknz : Statement .sknz := ⟨Nat.le_of_ble_eq_true rfl, Nat.le_of_ble_eq_true rfl⟩
theorem skh : Statement .skh := ⟨Nat.le_of_ble_eq_true rfl, Nat.le_of_ble_eq_true rfl⟩
theorem sknh : Statement .sknh := ⟨Nat.le_of_ble_eq_true rfl, Nat.le_of_ble_eq_true rfl⟩
theorem sel (n : BankNo) : Statement (.sel n) := ⟨Nat.le_of_ble_eq_true rfl, Nat.le_of_ble_eq_true rfl⟩
theorem nop : Statement .nop := ⟨Nat.le_of_ble_eq_true rfl, Nat.le_of_ble_eq_true rfl⟩
theorem ei : Statement .ei := ⟨Nat.le_of_ble_eq_true rfl, Nat.le_of_ble_eq_true rfl⟩
theorem di : Statement .di := ⟨Nat.le_of_ble_eq_true rfl, Nat.le_of_ble_eq_true rfl⟩
theorem halt : Statement .halt := ⟨Nat.le_of_ble_eq_true rfl, Nat.le_of_ble_eq_true rfl⟩
theorem stop : Statement .stop := ⟨Nat.le_of_ble_eq_true rfl, Nat.le_of_ble_eq_true rfl⟩
theorem prefixByte : Statement .prefixByte := ⟨Nat.le_of_ble_eq_true rfl, Nat.le_of_ble_eq_true rfl⟩

end Sys2Proof.Laws.Encoding
end

