-- ==== Sys2Proof/Tests/Slice0.lean ====
section
/-!
SUPPORT. Tests. The words are laid out bit by bit from the spec's encodings (30_encoding.md, spec/opcode_table.json);
the results of the one-step tests are those of the manual's worked examples (95_test_vectors.md); then, for every
statement with hypotheses, a concrete state and operands that meet them, at a boundary of each clause.
-/

namespace Sys2Proof.Tests

open Sys2Proof Sys2Proof.Machine Sys2Proof.Forms

/-! One theorem at a time: `decide +kernel` waits for every earlier kernel check, and a thread of its own for each test
that waits takes more memory than the tests need. -/
set_option Elab.async false

/-! ## Decoding and encoding: a word of every row -/

/-- Every word decodes to its instruction with its length, and the instruction encodes to the word. -/
def Reads (l : List (List Byte × Instr)) : Prop :=
  l.map (fun p => (decode .s3 p.1, encode p.2)) = l.map fun p => (.ok (p.2, p.1.length), p.1)


theorem test_words_transfer8_1 : Reads [
    ([0x52, 0x4D], .movRImm .c 0x4D), ([0xCD, 0x34, 0x4D], .movSaddrImm 0x34 0x4D),
    ([0xCE, 0x35, 0x4D], .movSfrImm 0x35 0x4D), ([0xCF, 0x12, 0xAB, 0x4D], .movAbsImm 0xAB12 0x4D),
    ([0x11, 0xCF, 0x12, 0xAB, 0x4D], .movEsAbsImm 0xAB12 0x4D), ([0x62], .movAR .c), ([0x72], .movRA .c),
    ([0x8D, 0x34], .movASaddr 0x34), ([0x9D, 0x34], .movSaddrA 0x34), ([0x8E, 0x35], .movASfr 0x35),
    ([0x9E, 0x35], .movSfrA 0x35), ([0x8F, 0x12, 0xAB], .movAAbs 0xAB12),
    ([0x11, 0x8F, 0x12, 0xAB], .movAEsAbs 0xAB12), ([0x9F, 0x12, 0xAB], .movAbsA 0xAB12),
    ([0x11, 0x9F, 0x12, 0xAB], .movEsAbsA 0xAB12), ([0xCE, 0xFA, 0x4D], .movPswImm 0x4D), ([0x8E, 0xFA], .movAPsw),
    ([0x9E, 0xFA], .movPswA), ([0x41, 0x4D], .movEsImm 0x4D), ([0x61, 0xB8, 0x34], .movEsSaddr 0x34),
    ([0x8E, 0xFD], .movAEs), ([0x9E, 0xFD], .movEsA), ([0xCE, 0xFC, 0x4D], .movCsImm 0x4D), ([0x8E, 0xFC], .movACs),
    ([0x9E, 0xFC], .movCsA), ([0x89], .movAAtDe), ([0x11, 0x89], .movAEsAtDe), ([0x99], .movAtDeA),
    ([0x11, 0x99], .movEsAtDeA), ([0xCA, 0x7E, 0x4D], .movDeOffImm 0x7E 0x4D),
    ([0x11, 0xCA, 0x7E, 0x4D], .movEsDeOffImm 0x7E 0x4D), ([0x8A, 0x7E], .movADeOff 0x7E),
    ([0x11, 0x8A, 0x7E], .movAEsDeOff 0x7E), ([0x9A, 0x7E], .movDeOffA 0x7E), ([0x11, 0x9A, 0x7E], .movEsDeOffA 0x7E),
    ([0x8B], .movAAtHl), ([0x11, 0x8B], .movAEsAtHl), ([0x9B], .movAtHlA), ([0x11, 0x9B], .movEsAtHlA),
    ([0xCC, 0x7E, 0x4D], .movHlOffImm 0x7E 0x4D)] := by
  rfl

theorem test_words_transfer8_2 : Reads [
    ([0x11, 0xCC, 0x7E, 0x4D], .movEsHlOffImm 0x7E 0x4D), ([0x8C, 0x7E], .movAHlOff 0x7E),
    ([0x11, 0x8C, 0x7E], .movAEsHlOff 0x7E), ([0x9C, 0x7E], .movHlOffA 0x7E), ([0x11, 0x9C, 0x7E], .movEsHlOffA 0x7E),
    ([0x61, 0xC9], .movAHlB), ([0x11, 0x61, 0xC9], .movAEsHlB), ([0x61, 0xD9], .movHlBA),
    ([0x11, 0x61, 0xD9], .movEsHlBA), ([0x61, 0xE9], .movAHlC), ([0x11, 0x61, 0xE9], .movAEsHlC),
    ([0x61, 0xF9], .movHlCA), ([0x11, 0x61, 0xF9], .movEsHlCA), ([0x19, 0x12, 0xAB, 0x4D], .movWordBImm 0xAB12 0x4D),
    ([0x11, 0x19, 0x12, 0xAB, 0x4D], .movEsWordBImm 0xAB12 0x4D), ([0x09, 0x12, 0xAB], .movAWordB 0xAB12),
    ([0x11, 0x09, 0x12, 0xAB], .movAEsWordB 0xAB12), ([0x18, 0x12, 0xAB], .movWordBA 0xAB12),
    ([0x11, 0x18, 0x12, 0xAB], .movEsWordBA 0xAB12), ([0x38, 0x12, 0xAB, 0x4D], .movWordCImm 0xAB12 0x4D),
    ([0x11, 0x38, 0x12, 0xAB, 0x4D], .movEsWordCImm 0xAB12 0x4D), ([0x29, 0x12, 0xAB], .movAWordC 0xAB12),
    ([0x11, 0x29, 0x12, 0xAB], .movAEsWordC 0xAB12), ([0x28, 0x12, 0xAB], .movWordCA 0xAB12),
    ([0x11, 0x28, 0x12, 0xAB], .movEsWordCA 0xAB12), ([0x39, 0x12, 0xAB, 0x4D], .movWordBcImm 0xAB12 0x4D),
    ([0x11, 0x39, 0x12, 0xAB, 0x4D], .movEsWordBcImm 0xAB12 0x4D), ([0x49, 0x12, 0xAB], .movAWordBc 0xAB12),
    ([0x11, 0x49, 0x12, 0xAB], .movAEsWordBc 0xAB12), ([0x48, 0x12, 0xAB], .movWordBcA 0xAB12),
    ([0x11, 0x48, 0x12, 0xAB], .movEsWordBcA 0xAB12), ([0xC8, 0x7E, 0x4D], .movSpOffImm 0x7E 0x4D),
    ([0x88, 0x7E], .movASpOff 0x7E), ([0x98, 0x7E], .movSpOffA 0x7E), ([0xE8, 0x34], .movBSaddr 0x34),
    ([0xE9, 0x12, 0xAB], .movBAbs 0xAB12), ([0x11, 0xE9, 0x12, 0xAB], .movBEsAbs 0xAB12),
    ([0xF8, 0x34], .movCSaddr 0x34), ([0xF9, 0x12, 0xAB], .movCAbs 0xAB12),
    ([0x11, 0xF9, 0x12, 0xAB], .movCEsAbs 0xAB12)] := by
  rfl

theorem test_words_transfer8_3 : Reads [
    ([0xD8, 0x34], .movXSaddr 0x34), ([0xD9, 0x12, 0xAB], .movXAbs 0xAB12),
    ([0x11, 0xD9, 0x12, 0xAB], .movXEsAbs 0xAB12), ([0x08], .xchAX), ([0x61, 0x8A], .xchAR .c),
    ([0x61, 0xA8, 0x34], .xchASaddr 0x34), ([0x61, 0xAB, 0x35], .xchASfr 0x35),
    ([0x61, 0xAA, 0x12, 0xAB], .xchAAbs 0xAB12), ([0x11, 0x61, 0xAA, 0x12, 0xAB], .xchAEsAbs 0xAB12),
    ([0x61, 0xAE], .xchAAtDe), ([0x11, 0x61, 0xAE], .xchAEsAtDe), ([0x61, 0xAF, 0x7E], .xchADeOff 0x7E),
    ([0x11, 0x61, 0xAF, 0x7E], .xchAEsDeOff 0x7E), ([0x61, 0xAC], .xchAAtHl), ([0x11, 0x61, 0xAC], .xchAEsAtHl),
    ([0x61, 0xAD, 0x7E], .xchAHlOff 0x7E), ([0x11, 0x61, 0xAD, 0x7E], .xchAEsHlOff 0x7E), ([0x61, 0xB9], .xchAHlB),
    ([0x11, 0x61, 0xB9], .xchAEsHlB), ([0x61, 0xA9], .xchAHlC), ([0x11, 0x61, 0xA9], .xchAEsHlC), ([0xE2], .onebR .c),
    ([0xE4, 0x34], .onebSaddr 0x34), ([0xE5, 0x12, 0xAB], .onebAbs 0xAB12),
    ([0x11, 0xE5, 0x12, 0xAB], .onebEsAbs 0xAB12), ([0xF2], .clrbR .c), ([0xF4, 0x34], .clrbSaddr 0x34),
    ([0xF5, 0x12, 0xAB], .clrbAbs 0xAB12), ([0x11, 0xF5, 0x12, 0xAB], .clrbEsAbs 0xAB12),
    ([0x61, 0xCE, 0x7E], .movsHlOffX 0x7E), ([0x11, 0x61, 0xCE, 0x7E], .movsEsHlOffX 0x7E)] := by
  rfl

theorem test_words_transfer16_1 : Reads [
    ([0x34, 0xCD, 0xAB], .movwRpImm .de 0xABCD), ([0xC9, 0x34, 0xCD, 0xAB], .movwSaddrpImm 0x34 0xABCD),
    ([0xCB, 0x35, 0xCD, 0xAB], .movwSfrpImm 0x35 0xABCD), ([0xAD, 0x34], .movwAxSaddrp 0x34),
    ([0xBD, 0x34], .movwSaddrpAx 0x34), ([0xAE, 0x35], .movwAxSfrp 0x35), ([0xBE, 0x35], .movwSfrpAx 0x35),
    ([0x15], .movwAxRp .de), ([0x14], .movwRpAx .de), ([0xAF, 0x12, 0xAB], .movwAxAbs 0xAB12),
    ([0x11, 0xAF, 0x12, 0xAB], .movwAxEsAbs 0xAB12), ([0xBF, 0x12, 0xAB], .movwAbsAx 0xAB12),
    ([0x11, 0xBF, 0x12, 0xAB], .movwEsAbsAx 0xAB12), ([0xA9], .movwAxAtDe), ([0x11, 0xA9], .movwAxEsAtDe),
    ([0xB9], .movwAtDeAx), ([0x11, 0xB9], .movwEsAtDeAx), ([0xAA, 0x7E], .movwAxDeOff 0x7E),
    ([0x11, 0xAA, 0x7E], .movwAxEsDeOff 0x7E), ([0xBA, 0x7E], .movwDeOffAx 0x7E),
    ([0x11, 0xBA, 0x7E], .movwEsDeOffAx 0x7E), ([0xAB], .movwAxAtHl), ([0x11, 0xAB], .movwAxEsAtHl),
    ([0xBB], .movwAtHlAx), ([0x11, 0xBB], .movwEsAtHlAx), ([0xAC, 0x7E], .movwAxHlOff 0x7E),
    ([0x11, 0xAC, 0x7E], .movwAxEsHlOff 0x7E), ([0xBC, 0x7E], .movwHlOffAx 0x7E),
    ([0x11, 0xBC, 0x7E], .movwEsHlOffAx 0x7E), ([0x59, 0x12, 0xAB], .movwAxWordB 0xAB12),
    ([0x11, 0x59, 0x12, 0xAB], .movwAxEsWordB 0xAB12), ([0x58, 0x12, 0xAB], .movwWordBAx 0xAB12),
    ([0x11, 0x58, 0x12, 0xAB], .movwEsWordBAx 0xAB12), ([0x69, 0x12, 0xAB], .movwAxWordC 0xAB12),
    ([0x11, 0x69, 0x12, 0xAB], .movwAxEsWordC 0xAB12), ([0x68, 0x12, 0xAB], .movwWordCAx 0xAB12),
    ([0x11, 0x68, 0x12, 0xAB], .movwEsWordCAx 0xAB12), ([0x79, 0x12, 0xAB], .movwAxWordBc 0xAB12),
    ([0x11, 0x79, 0x12, 0xAB], .movwAxEsWordBc 0xAB12), ([0x78, 0x12, 0xAB], .movwWordBcAx 0xAB12)] := by
  rfl

theorem test_words_transfer16_2 : Reads [
    ([0x11, 0x78, 0x12, 0xAB], .movwEsWordBcAx 0xAB12), ([0xA8, 0x7E], .movwAxSpOff 0x7E),
    ([0xB8, 0x7E], .movwSpOffAx 0x7E), ([0xEA, 0x34], .movwRpSaddrp .de 0x34),
    ([0xEB, 0x12, 0xAB], .movwRpAbs .de 0xAB12), ([0x11, 0xEB, 0x12, 0xAB], .movwRpEsAbs .de 0xAB12),
    ([0x35], .xchwAxRp .de), ([0xE6], .onewAx), ([0xE7], .onewBc), ([0xF6], .clrwAx), ([0xF7], .clrwBc)] := by
  rfl

theorem test_words_alu8_1 : Reads [
    ([0x0C, 0x4D], .addAImm 0x4D), ([0x0A, 0x34, 0x4D], .addSaddrImm 0x34 0x4D), ([0x61, 0x0A], .addAR .c),
    ([0x61, 0x02], .addRA .c), ([0x0B, 0x34], .addASaddr 0x34), ([0x0F, 0x12, 0xAB], .addAAbs 0xAB12),
    ([0x11, 0x0F, 0x12, 0xAB], .addAEsAbs 0xAB12), ([0x0D], .addAAtHl), ([0x11, 0x0D], .addAEsAtHl),
    ([0x0E, 0x7E], .addAHlOff 0x7E), ([0x11, 0x0E, 0x7E], .addAEsHlOff 0x7E), ([0x61, 0x80], .addAHlB),
    ([0x11, 0x61, 0x80], .addAEsHlB), ([0x61, 0x82], .addAHlC), ([0x11, 0x61, 0x82], .addAEsHlC),
    ([0x1C, 0x4D], .addcAImm 0x4D), ([0x1A, 0x34, 0x4D], .addcSaddrImm 0x34 0x4D), ([0x61, 0x1A], .addcAR .c),
    ([0x61, 0x12], .addcRA .c), ([0x1B, 0x34], .addcASaddr 0x34), ([0x1F, 0x12, 0xAB], .addcAAbs 0xAB12),
    ([0x11, 0x1F, 0x12, 0xAB], .addcAEsAbs 0xAB12), ([0x1D], .addcAAtHl), ([0x11, 0x1D], .addcAEsAtHl),
    ([0x1E, 0x7E], .addcAHlOff 0x7E), ([0x11, 0x1E, 0x7E], .addcAEsHlOff 0x7E), ([0x61, 0x90], .addcAHlB),
    ([0x11, 0x61, 0x90], .addcAEsHlB), ([0x61, 0x92], .addcAHlC), ([0x11, 0x61, 0x92], .addcAEsHlC),
    ([0x2C, 0x4D], .subAImm 0x4D), ([0x2A, 0x34, 0x4D], .subSaddrImm 0x34 0x4D), ([0x61, 0x2A], .subAR .c),
    ([0x61, 0x22], .subRA .c), ([0x2B, 0x34], .subASaddr 0x34), ([0x2F, 0x12, 0xAB], .subAAbs 0xAB12),
    ([0x11, 0x2F, 0x12, 0xAB], .subAEsAbs 0xAB12), ([0x2D], .subAAtHl), ([0x11, 0x2D], .subAEsAtHl),
    ([0x2E, 0x7E], .subAHlOff 0x7E)] := by
  rfl

theorem test_words_alu8_2 : Reads [
    ([0x11, 0x2E, 0x7E], .subAEsHlOff 0x7E), ([0x61, 0xA0], .subAHlB), ([0x11, 0x61, 0xA0], .subAEsHlB),
    ([0x61, 0xA2], .subAHlC), ([0x11, 0x61, 0xA2], .subAEsHlC), ([0x3C, 0x4D], .subcAImm 0x4D),
    ([0x3A, 0x34, 0x4D], .subcSaddrImm 0x34 0x4D), ([0x61, 0x3A], .subcAR .c), ([0x61, 0x32], .subcRA .c),
    ([0x3B, 0x34], .subcASaddr 0x34), ([0x3F, 0x12, 0xAB], .subcAAbs 0xAB12),
    ([0x11, 0x3F, 0x12, 0xAB], .subcAEsAbs 0xAB12), ([0x3D], .subcAAtHl), ([0x11, 0x3D], .subcAEsAtHl),
    ([0x3E, 0x7E], .subcAHlOff 0x7E), ([0x11, 0x3E, 0x7E], .subcAEsHlOff 0x7E), ([0x61, 0xB0], .subcAHlB),
    ([0x11, 0x61, 0xB0], .subcAEsHlB), ([0x61, 0xB2], .subcAHlC), ([0x11, 0x61, 0xB2], .subcAEsHlC),
    ([0x4C, 0x4D], .cmpAImm 0x4D), ([0x4A, 0x34, 0x4D], .cmpSaddrImm 0x34 0x4D), ([0x61, 0x4A], .cmpAR .c),
    ([0x61, 0x42], .cmpRA .c), ([0x4B, 0x34], .cmpASaddr 0x34), ([0x4F, 0x12, 0xAB], .cmpAAbs 0xAB12),
    ([0x11, 0x4F, 0x12, 0xAB], .cmpAEsAbs 0xAB12), ([0x4D], .cmpAAtHl), ([0x11, 0x4D], .cmpAEsAtHl),
    ([0x4E, 0x7E], .cmpAHlOff 0x7E), ([0x11, 0x4E, 0x7E], .cmpAEsHlOff 0x7E), ([0x61, 0xC0], .cmpAHlB),
    ([0x11, 0x61, 0xC0], .cmpAEsHlB), ([0x61, 0xC2], .cmpAHlC), ([0x11, 0x61, 0xC2], .cmpAEsHlC),
    ([0x5C, 0x4D], .andAImm 0x4D), ([0x5A, 0x34, 0x4D], .andSaddrImm 0x34 0x4D), ([0x61, 0x5A], .andAR .c),
    ([0x61, 0x52], .andRA .c), ([0x5B, 0x34], .andASaddr 0x34)] := by
  rfl

theorem test_words_alu8_3 : Reads [
    ([0x5F, 0x12, 0xAB], .andAAbs 0xAB12), ([0x11, 0x5F, 0x12, 0xAB], .andAEsAbs 0xAB12), ([0x5D], .andAAtHl),
    ([0x11, 0x5D], .andAEsAtHl), ([0x5E, 0x7E], .andAHlOff 0x7E), ([0x11, 0x5E, 0x7E], .andAEsHlOff 0x7E),
    ([0x61, 0xD0], .andAHlB), ([0x11, 0x61, 0xD0], .andAEsHlB), ([0x61, 0xD2], .andAHlC),
    ([0x11, 0x61, 0xD2], .andAEsHlC), ([0x6C, 0x4D], .orAImm 0x4D), ([0x6A, 0x34, 0x4D], .orSaddrImm 0x34 0x4D),
    ([0x61, 0x6A], .orAR .c), ([0x61, 0x62], .orRA .c), ([0x6B, 0x34], .orASaddr 0x34),
    ([0x6F, 0x12, 0xAB], .orAAbs 0xAB12), ([0x11, 0x6F, 0x12, 0xAB], .orAEsAbs 0xAB12), ([0x6D], .orAAtHl),
    ([0x11, 0x6D], .orAEsAtHl), ([0x6E, 0x7E], .orAHlOff 0x7E), ([0x11, 0x6E, 0x7E], .orAEsHlOff 0x7E),
    ([0x61, 0xE0], .orAHlB), ([0x11, 0x61, 0xE0], .orAEsHlB), ([0x61, 0xE2], .orAHlC),
    ([0x11, 0x61, 0xE2], .orAEsHlC), ([0x7C, 0x4D], .xorAImm 0x4D), ([0x7A, 0x34, 0x4D], .xorSaddrImm 0x34 0x4D),
    ([0x61, 0x7A], .xorAR .c), ([0x61, 0x72], .xorRA .c), ([0x7B, 0x34], .xorASaddr 0x34),
    ([0x7F, 0x12, 0xAB], .xorAAbs 0xAB12), ([0x11, 0x7F, 0x12, 0xAB], .xorAEsAbs 0xAB12), ([0x7D], .xorAAtHl),
    ([0x11, 0x7D], .xorAEsAtHl), ([0x7E, 0x7E], .xorAHlOff 0x7E), ([0x11, 0x7E, 0x7E], .xorAEsHlOff 0x7E),
    ([0x61, 0xF0], .xorAHlB), ([0x11, 0x61, 0xF0], .xorAEsHlB), ([0x61, 0xF2], .xorAHlC),
    ([0x11, 0x61, 0xF2], .xorAEsHlC)] := by
  rfl

theorem test_words_alu8_4 : Reads [
    ([0x40, 0x12, 0xAB, 0x4D], .cmpAbsImm 0xAB12 0x4D), ([0x11, 0x40, 0x12, 0xAB, 0x4D], .cmpEsAbsImm 0xAB12 0x4D),
    ([0xD2], .cmp0R .c), ([0xD4, 0x34], .cmp0Saddr 0x34), ([0xD5, 0x12, 0xAB], .cmp0Abs 0xAB12),
    ([0x11, 0xD5, 0x12, 0xAB], .cmp0EsAbs 0xAB12), ([0x61, 0xDE, 0x7E], .cmpsXHlOff 0x7E),
    ([0x11, 0x61, 0xDE, 0x7E], .cmpsXEsHlOff 0x7E)] := by
  rfl

theorem test_words_alu16_1 : Reads [
    ([0x04, 0xCD, 0xAB], .addwAxImm 0xABCD), ([0x05], .addwAxRp .de), ([0x06, 0x34], .addwAxSaddrp 0x34),
    ([0x02, 0x12, 0xAB], .addwAxAbs 0xAB12), ([0x11, 0x02, 0x12, 0xAB], .addwAxEsAbs 0xAB12),
    ([0x61, 0x09, 0x7E], .addwAxHlOff 0x7E), ([0x11, 0x61, 0x09, 0x7E], .addwAxEsHlOff 0x7E),
    ([0x24, 0xCD, 0xAB], .subwAxImm 0xABCD), ([0x25], .subwAxRp .de), ([0x26, 0x34], .subwAxSaddrp 0x34),
    ([0x22, 0x12, 0xAB], .subwAxAbs 0xAB12), ([0x11, 0x22, 0x12, 0xAB], .subwAxEsAbs 0xAB12),
    ([0x61, 0x29, 0x7E], .subwAxHlOff 0x7E), ([0x11, 0x61, 0x29, 0x7E], .subwAxEsHlOff 0x7E),
    ([0x44, 0xCD, 0xAB], .cmpwAxImm 0xABCD), ([0x45], .cmpwAxRp .de), ([0x46, 0x34], .cmpwAxSaddrp 0x34),
    ([0x42, 0x12, 0xAB], .cmpwAxAbs 0xAB12), ([0x11, 0x42, 0x12, 0xAB], .cmpwAxEsAbs 0xAB12),
    ([0x61, 0x49, 0x7E], .cmpwAxHlOff 0x7E), ([0x11, 0x61, 0x49, 0x7E], .cmpwAxEsHlOff 0x7E)] := by
  rfl

theorem test_words_mulDiv_1 : Reads [
    ([0xD6], .muluX), ([0xCE, 0xFB, 0x01], .mulhu), ([0xCE, 0xFB, 0x02], .mulh), ([0xCE, 0xFB, 0x03], .divhu),
    ([0xCE, 0xFB, 0x0B], .divwu), ([0xCE, 0xFB, 0x05], .machu), ([0xCE, 0xFB, 0x06], .mach)] := by
  rfl

theorem test_words_incDec_1 : Reads [
    ([0x82], .incR .c), ([0xA4, 0x34], .incSaddr 0x34), ([0xA0, 0x12, 0xAB], .incAbs 0xAB12),
    ([0x11, 0xA0, 0x12, 0xAB], .incEsAbs 0xAB12), ([0x61, 0x59, 0x7E], .incHlOff 0x7E),
    ([0x11, 0x61, 0x59, 0x7E], .incEsHlOff 0x7E), ([0x92], .decR .c), ([0xB4, 0x34], .decSaddr 0x34),
    ([0xB0, 0x12, 0xAB], .decAbs 0xAB12), ([0x11, 0xB0, 0x12, 0xAB], .decEsAbs 0xAB12),
    ([0x61, 0x69, 0x7E], .decHlOff 0x7E), ([0x11, 0x61, 0x69, 0x7E], .decEsHlOff 0x7E), ([0xA5], .incwRp .de),
    ([0xA6, 0x34], .incwSaddrp 0x34), ([0xA2, 0x12, 0xAB], .incwAbs 0xAB12),
    ([0x11, 0xA2, 0x12, 0xAB], .incwEsAbs 0xAB12), ([0x61, 0x79, 0x7E], .incwHlOff 0x7E),
    ([0x11, 0x61, 0x79, 0x7E], .incwEsHlOff 0x7E), ([0xB5], .decwRp .de), ([0xB6, 0x34], .decwSaddrp 0x34),
    ([0xB2, 0x12, 0xAB], .decwAbs 0xAB12), ([0x11, 0xB2, 0x12, 0xAB], .decwEsAbs 0xAB12),
    ([0x61, 0x89, 0x7E], .decwHlOff 0x7E), ([0x11, 0x61, 0x89, 0x7E], .decwEsHlOff 0x7E)] := by
  rfl

theorem test_words_shiftRotate_1 : Reads [
    ([0x31, 0x5A], .shrA 5), ([0x31, 0x5E], .shrwAx 5), ([0x31, 0x59], .shlA 5), ([0x31, 0x58], .shlB 5),
    ([0x31, 0x57], .shlC 5), ([0x31, 0x5D], .shlwAx 5), ([0x31, 0x5C], .shlwBc 5), ([0x31, 0x5B], .sarA 5),
    ([0x31, 0x5F], .sarwAx 5), ([0x61, 0xDB], .rorA), ([0x61, 0xEB], .rolA), ([0x61, 0xFB], .rorcA),
    ([0x61, 0xDC], .rolcA), ([0x61, 0xEE], .rolwcAx), ([0x61, 0xFE], .rolwcBc)] := by
  rfl

theorem test_words_bitOps_1 : Reads [
    ([0x71, 0xDC], .mov1CyABit 5), ([0x71, 0xD9], .mov1ABitCy 5), ([0x71, 0x5C, 0xFA], .mov1CyPswBit 5),
    ([0x71, 0x59, 0xFA], .mov1PswBitCy 5), ([0x71, 0x54, 0x34], .mov1CySaddrBit 0x34 5),
    ([0x71, 0x51, 0x34], .mov1SaddrBitCy 0x34 5), ([0x71, 0x5C, 0x35], .mov1CySfrBit 0x35 5),
    ([0x71, 0x59, 0x35], .mov1SfrBitCy 0x35 5), ([0x71, 0xD4], .mov1CyHlBit 5),
    ([0x11, 0x71, 0xD4], .mov1CyEsHlBit 5), ([0x71, 0xD1], .mov1HlBitCy 5), ([0x11, 0x71, 0xD1], .mov1EsHlBitCy 5),
    ([0x71, 0xDD], .and1CyABit 5), ([0x71, 0x5D, 0xFA], .and1CyPswBit 5),
    ([0x71, 0x55, 0x34], .and1CySaddrBit 0x34 5), ([0x71, 0x5D, 0x35], .and1CySfrBit 0x35 5),
    ([0x71, 0xD5], .and1CyHlBit 5), ([0x11, 0x71, 0xD5], .and1CyEsHlBit 5), ([0x71, 0xDE], .or1CyABit 5),
    ([0x71, 0x5E, 0xFA], .or1CyPswBit 5), ([0x71, 0x56, 0x34], .or1CySaddrBit 0x34 5),
    ([0x71, 0x5E, 0x35], .or1CySfrBit 0x35 5), ([0x71, 0xD6], .or1CyHlBit 5), ([0x11, 0x71, 0xD6], .or1CyEsHlBit 5),
    ([0x71, 0xDF], .xor1CyABit 5), ([0x71, 0x5F, 0xFA], .xor1CyPswBit 5),
    ([0x71, 0x57, 0x34], .xor1CySaddrBit 0x34 5), ([0x71, 0x5F, 0x35], .xor1CySfrBit 0x35 5),
    ([0x71, 0xD7], .xor1CyHlBit 5), ([0x11, 0x71, 0xD7], .xor1CyEsHlBit 5), ([0x71, 0xDA], .set1ABit 5),
    ([0x71, 0x5A, 0xFA], .set1PswBit 5), ([0x71, 0x50, 0x12, 0xAB], .set1AbsBit 0xAB12 5),
    ([0x11, 0x71, 0x50, 0x12, 0xAB], .set1EsAbsBit 0xAB12 5), ([0x71, 0x52, 0x34], .set1SaddrBit 0x34 5),
    ([0x71, 0x5A, 0x35], .set1SfrBit 0x35 5), ([0x71, 0xD2], .set1HlBit 5), ([0x11, 0x71, 0xD2], .set1EsHlBit 5),
    ([0x71, 0xDB], .clr1ABit 5), ([0x71, 0x5B, 0xFA], .clr1PswBit 5)] := by
  rfl

theorem test_words_bitOps_2 : Reads [
    ([0x71, 0x58, 0x12, 0xAB], .clr1AbsBit 0xAB12 5), ([0x11, 0x71, 0x58, 0x12, 0xAB], .clr1EsAbsBit 0xAB12 5),
    ([0x71, 0x53, 0x34], .clr1SaddrBit 0x34 5), ([0x71, 0x5B, 0x35], .clr1SfrBit 0x35 5),
    ([0x71, 0xD3], .clr1HlBit 5), ([0x11, 0x71, 0xD3], .clr1EsHlBit 5), ([0x71, 0x80], .set1Cy),
    ([0x71, 0x88], .clr1Cy), ([0x71, 0xC0], .not1Cy)] := by
  rfl

theorem test_words_callStack_1 : Reads [
    ([0x61, 0xEA], .callRp .de), ([0xFE, 0x12, 0xAB], .callRel16 0xAB12), ([0xFD, 0x12, 0xAB], .callAbs16 0xAB12),
    ([0xFC, 0x12, 0xAB, 0x03], .callAbs20 0x3AB12), ([0x61, 0xD6], .callt 21), ([0x61, 0xCC], .brk), ([0xD7], .ret),
    ([0x61, 0xFC], .reti), ([0x61, 0xEC], .retb), ([0x61, 0xDD], .pushPsw), ([0xC5], .pushRp .de),
    ([0x61, 0xCD], .popPsw), ([0xC4], .popRp .de), ([0xCB, 0xF8, 0xCD, 0xAB], .movwSpImm 0xABCD),
    ([0xBE, 0xF8], .movwSpAx), ([0xAE, 0xF8], .movwAxSp), ([0xEB, 0xF8, 0xFF], .movwRpSp .de),
    ([0x10, 0x4D], .addwSpImm 0x4D), ([0x20, 0x4D], .subwSpImm 0x4D)] := by
  rfl

theorem test_words_branch_1 : Reads [
    ([0x61, 0xCB], .brAx), ([0xEF, 0x7E], .brRel8 0x7E), ([0xEE, 0x12, 0xAB], .brRel16 0xAB12),
    ([0xED, 0x12, 0xAB], .brAbs16 0xAB12), ([0xEC, 0x12, 0xAB, 0x03], .brAbs20 0x3AB12), ([0xDC, 0x7E], .bc 0x7E),
    ([0xDE, 0x7E], .bnc 0x7E), ([0xDD, 0x7E], .bz 0x7E), ([0xDF, 0x7E], .bnz 0x7E), ([0x61, 0xC3, 0x7E], .bh 0x7E),
    ([0x61, 0xD3, 0x7E], .bnh 0x7E), ([0x31, 0x52, 0x34, 0x7E], .btSaddrBit 0x34 5 0x7E),
    ([0x31, 0xD2, 0x35, 0x7E], .btSfrBit 0x35 5 0x7E), ([0x31, 0x53, 0x7E], .btABit 5 0x7E),
    ([0x31, 0xD2, 0xFA, 0x7E], .btPswBit 5 0x7E), ([0x31, 0xD3, 0x7E], .btHlBit 5 0x7E),
    ([0x11, 0x31, 0xD3, 0x7E], .btEsHlBit 5 0x7E), ([0x31, 0x54, 0x34, 0x7E], .bfSaddrBit 0x34 5 0x7E),
    ([0x31, 0xD4, 0x35, 0x7E], .bfSfrBit 0x35 5 0x7E), ([0x31, 0x55, 0x7E], .bfABit 5 0x7E),
    ([0x31, 0xD4, 0xFA, 0x7E], .bfPswBit 5 0x7E), ([0x31, 0xD5, 0x7E], .bfHlBit 5 0x7E),
    ([0x11, 0x31, 0xD5, 0x7E], .bfEsHlBit 5 0x7E), ([0x31, 0x50, 0x34, 0x7E], .btclrSaddrBit 0x34 5 0x7E),
    ([0x31, 0xD0, 0x35, 0x7E], .btclrSfrBit 0x35 5 0x7E), ([0x31, 0x51, 0x7E], .btclrABit 5 0x7E),
    ([0x31, 0xD0, 0xFA, 0x7E], .btclrPswBit 5 0x7E), ([0x31, 0xD1, 0x7E], .btclrHlBit 5 0x7E),
    ([0x11, 0x31, 0xD1, 0x7E], .btclrEsHlBit 5 0x7E)] := by
  rfl

theorem test_words_control_1 : Reads [
    ([0x61, 0xC8], .skc), ([0x61, 0xD8], .sknc), ([0x61, 0xE8], .skz), ([0x61, 0xF8], .sknz), ([0x61, 0xE3], .skh),
    ([0x61, 0xF3], .sknh), ([0x61, 0xEF], .sel .rb2), ([0x00], .nop), ([0x71, 0x7A, 0xFA], .ei),
    ([0x71, 0x7B, 0xFA], .di), ([0x61, 0xED], .halt), ([0x61, 0xFD], .stop)] := by
  rfl

theorem test_prefix_alone : decode .s3 [0x11, 0x00] = .ok (.prefixByte, 1) := by rfl

/-- Truncated words, an addr20 with a bad top nibble, shift count 0, SEL on S1, MULHU on S2. -/
theorem test_decode_edges :
    decode .s3 [] = .error .truncated ∧ decode .s3 [0x51] = .error .truncated
      ∧ decode .s3 [0xFC, 0x00, 0x20, 0x10] = .error .unassigned ∧ decode .s3 [0x31, 0x0A] = .error .unassigned
      ∧ decode .s3 [0x31, 0x8A] = .error .unassigned ∧ decode .s1 [0x61, 0xCF] = .error .unassigned
      ∧ decode .s2 [0xCE, 0xFB, 0x01] = .ok (.movSfrImm 0xFB 0x01, 3)
      ∧ decode .s3 [0xCE, 0xFB, 0x04] = .error .unassigned := ⟨rfl, rfl, rfl, rfl, rfl, rfl, rfl, rfl⟩

/-- The words that `decodeTableWord` lays out: the first byte lowest (spec/opcode_table.json). -/
theorem test_decodeTableWord :
    decodeTableWord 16 0x4D51 = some (.movRImm .a 0x4D) ∧ decodeTableWord 8 0xCF = some (.movAbsImm 0 0) := ⟨rfl, rfl⟩

/-! ## WellFormed: for each check an ill-formed term that it refuses -/

/-- Values that belong to another row, registers and counts that no row has, instructions another core has. -/
theorem test_wellFormed_refuses :
    ([.movSfrImm 0xFA 0, .movSfrImm 0xFC 0, .movSfrImm 0xFB 1, .movAR .a, .movRA .a, .movASfr 0xFA, .movASfr 0xFC,
      .movASfr 0xFD, .movSfrA 0xFA, .xchAR .x, .xchAR .a, .onebR .e, .clrbR .h, .cmp0R .d, .movwSfrpImm 0xF8 0,
      .movwAxSfrp 0xF8, .movwSfrpAx 0xF8, .movwAxRp .ax, .movwRpAx .ax, .movwRpSaddrp .ax 0, .movwRpAbs .ax 0,
      .movwRpAbs .bc 0xFFF8, .movwRpEsAbs .ax 0, .xchwAxRp .ax, .addAR .a, .addcAR .a, .subAR .a, .subcAR .a, .cmpAR .a,
      .andAR .a, .orAR .a, .xorAR .a, .subwAxRp .ax, .cmpwAxRp .ax, .shrA 0, .shrA 8, .shrwAx 0, .shlA 0, .shlB 8,
      .shlC 15, .shlwAx 0, .shlwBc 0, .sarA 8, .sarwAx 0, .mov1CySfrBit 0xFA 0, .mov1SfrBitCy 0xFA 0,
      .and1CySfrBit 0xFA 0, .or1CySfrBit 0xFA 0, .xor1CySfrBit 0xFA 0, .set1PswBit 7, .set1SfrBit 0xFA 0, .clr1PswBit 7,
      .clr1SfrBit 0xFA 0, .movwRpSp .ax, .btSfrBit 0xFA 0 0, .bfSfrBit 0xFA 0 0, .btclrSfrBit 0xFA 0 0]
        : List Instr).map (Instr.wf .s3) = List.replicate 57 false := by
  rfl

/-- Instructions that only another core has. -/
theorem test_wellFormed_cores :
    ([.mulhu, .mulh, .divhu, .divwu, .machu, .mach] : List Instr).map (Instr.wf .s2) = List.replicate 6 false
      ∧ (Instr.sel .rb0).wf .s1 = false ∧ (Instr.movSfrImm 0xFB 1).wf .s2 = true := ⟨rfl, rfl, rfl⟩

/-! ## One step on a small state -/

/-- A state with SP = FE00H, nextPC 01000H and some RAM; on S3, or another core. -/
def small : State := { State.reset with pc := 0x01000, sp := 0xFE00 }

/-- `small` with two pairs set. -/
def withPairs (ax hl : Word) : State := (small.setPair .ax ax).setPair .hl hl

/-- `small` with a byte of RAM. -/
def withByte (s : State) (a : Nat) (v : Byte) : State := { s with mem := s.mem.write a v }

/-- `small` on S1 (its parameters: 95_test_vectors.md, configuration T). -/
def smallS1 : State := { small with cfg := { Config.initial with core := .s1, mirror := [(0xF8000, 0xFDEFF)] } }

/-- The outcome is a next state of which `p` holds. -/
def gives (o : Host.Outcome State Fault Refusal) (p : State → Bool) : Bool :=
  match o with
  | .next t => p t
  | .fault _ => false
  | .refused _ => false

/-- The state in which the outside world answers `e` at the next step (60_exceptions.md R403). -/
def answering (s : State) (e : EnvInput) : State := { s with irq := [(s.irqView, e)] }

/-- The outside world asks for an interrupt with vector `v` and new in-service level 0. -/
def asks (v : Nat) (maskable : Bool) : EnvInput := ⟨false, false, some ⟨v, maskable, 0⟩⟩

/-- MOVS [HL+2H],X: X = 55H, A = 0 (E5). -/
theorem test_movs : gives (exec (.movsHlOffX 0x02) (withPairs 0x0055 0xFE00))
    (fun t => t.cell 0xFFE02 == 0x55 && t.z == false && t.cy == true) = true := by decide +kernel

/-- XCHW AX,BC (E7). -/
theorem test_xchw : gives (exec (.xchwAxRp .bc) ((small.setPair .ax 0x1122).setPair .bc 0x3344))
    (fun t => t.pair .ax == 0x3344 && t.pair .bc == 0x1122) = true := by decide +kernel

/-- XCH A,FFEBCH (E2). -/
theorem test_xch : gives (exec (.xchASaddr 0xBC) (withByte (withPairs 0x1200 0) 0xFFEBC 0x34))
    (fun t => t.pair .ax == 0x3400 && t.cell 0xFFEBC == 0x12) = true := by decide +kernel

/-- SUB D,A: 10H - 1 borrows from bit 4 (E12). -/
theorem test_sub : gives (exec (.subRA .d) ((withPairs 0x0100 0).setPair .de 0x1000))
    (fun t => t.pair .de == 0x0F00 && t.psw.toByte == 0x16) = true := by decide +kernel

/-- SUBC A,[HL]: 0 - 0 - CY (E13). -/
theorem test_subc : gives (exec .subcAAtHl ((withPairs 0 0xFE00).setCy true))
    (fun t => t.pair .ax == 0xFF00 && t.psw.toByte == 0x17) = true := by decide +kernel

/-- ADDC A,[HL+B]: 0FH + 01H + CY, HL = FE00H, B = 3 (E11). -/
theorem test_addc : gives (exec .addcAHlB ((withByte ((withPairs 0x0F00 0xFE00).setReg .b 3) 0xFFE03 0x01).setCy true))
    (fun t => t.pair .ax == 0x1100 && t.psw.toByte == 0x16) = true := by decide +kernel

/-- AND FFEBAH,#DCH (E14). -/
theorem test_and : gives (exec (.andSaddrImm 0xBA 0xDC) (withByte small 0xFFEBA 0xFF))
    (fun t => t.cell 0xFFEBA == 0xDC && t.psw.toByte == 0x06) = true := by decide +kernel

/-- CMPS X,[HL+F0H] in its three cases (E19, E20, E21). -/
theorem test_cmps :
    gives (exec (.cmpsXHlOff 0xF0) (withByte (withPairs 0x0155 0xFD12) 0xFFE02 0x55)) (fun t => t.psw.toByte == 0x46)
    ∧ gives (exec (.cmpsXHlOff 0xF0) (withByte (withPairs 0x0155 0xFD12) 0xFFE02 0x54)) (fun t => t.psw.toByte == 0x07)
    ∧ gives (exec (.cmpsXHlOff 0xF0) (withByte (withPairs 0x0055 0xFD12) 0xFFE02 0x55))
      (fun t => t.psw.toByte == 0x47) := by decide +kernel

/-- ADDW AX,#ABCDH wraps to 0 (E22); AC is any value. -/
theorem test_addw : gives (exec (.addwAxImm 0xABCD) (withPairs 0x5433 0))
    (fun t => t.pair .ax == 0x0000 && t.z && t.cy) = true := by decide +kernel

/-- MULU X: FFH times FFH (E25). -/
theorem test_mulu : gives (exec .muluX (withPairs 0xFFFF 0)) (fun t => t.pair .ax == 0xFE01) = true := by
  decide +kernel

/-- MULH: C000H times 1000H is FC000000H (E27). -/
theorem test_mulh : gives (exec .mulh ((small.setPair .ax 0xC000).setPair .bc 0x1000))
    (fun t => t.pair .bc == 0xFC00 && t.pair .ax == 0x0000) = true := by decide +kernel

/-- DIVHU: 8081H by 2 (E28). -/
theorem test_divhu : gives (exec .divhu ((small.setPair .ax 0x8081).setPair .de 0x0002))
    (fun t => t.pair .ax == 0x4040 && t.pair .de == 0x0001) = true := by decide +kernel

/-- A division that ends at FLASH_TOP has no NOP after it, one before the last NOP of flash has (R268). -/
theorem test_division_at_flash_end :
    let s := { small with cfg := { Config.initial with flashTop := 0xEFFFF }, psw := { small.psw with ie := true } }
    gives (exec .divhu { s with pc := 0xF0000 }) (fun t => t.divHazard)
      ∧ gives (exec .divhu { withByte s 0xEFFFF 0x00 with pc := 0xEFFFF }) (fun t => !t.divHazard) := by decide +kernel

/-- DIVWU: 80808081H by 2 (E29). -/
theorem test_divwu : gives (exec .divwu (((small.setPair .ax 0x8081).setPair .bc 0x8080).setPair .de 0x0002))
    (fun t => t.pair .bc == 0x4040 && t.pair .ax == 0x4040 && t.pair .hl == 0 && t.pair .de == 1) = true := by
  decide +kernel

/-- MACH: 80000001H + 7FFFH * FFFFH (-1) overflows (E31). -/
theorem test_mach : gives
    (exec .mach { (small.setPair .ax 0x7FFF).setPair .bc 0xFFFF with macr := 0x80000001 })
    (fun t => t.macr == 0x7FFF8002 && t.cy && t.ac == false) = true := by decide +kernel

/-- INC B: 0FH carries out of bit 3, CY is kept (E32). -/
theorem test_inc : gives (exec (.incR .b) ((small.setReg .b 0x0F).setCy true))
    (fun t => t.reg .b == 0x10 && t.psw.toByte == 0x17) = true := by decide +kernel

/-- DECW DE wraps and changes no flag (E35). -/
theorem test_decw : gives (exec (.decwRp .de) small) (fun t => t.pair .de == 0xFFFF && t.psw.toByte == 0x06) = true := by
  decide +kernel

/-- SHR A,3 of F5H; SHRW AX,3 of AAF5H; SAR A,4 of 8CH; SARW AX,4 of A28CH (E36, E37, E40, E41). -/
theorem test_shift_right :
    gives (exec (.shrA 3) (withPairs 0xF500 0)) (fun t => t.pair .ax == 0x1E00 && t.cy)
    ∧ gives (exec (.shrwAx 3) (withPairs 0xAAF5 0)) (fun t => t.pair .ax == 0x155E && t.cy)
    ∧ gives (exec (.sarA 4) (withPairs 0x8C00 0)) (fun t => t.pair .ax == 0xF800 && t.cy)
    ∧ gives (exec (.sarwAx 4) (withPairs 0xA28C 0)) (fun t => t.pair .ax == 0xFA28 && t.cy) := by decide +kernel

/-- SHL A,3 of 5DH; SHLW BC,3 of C35DH (E38, E39). -/
theorem test_shift_left :
    gives (exec (.shlA 3) (withPairs 0x5D00 0)) (fun t => t.pair .ax == 0xE800 && !t.cy)
    ∧ gives (exec (.shlwBc 3) (small.setPair .bc 0xC35D)) (fun t => t.pair .bc == 0x1AE8 && !t.cy) := by decide +kernel

/-- ROR, ROL, RORC, ROLC of A, ROLWC BC (E42 to E46). -/
theorem test_rotates :
    gives (exec .rorA (withPairs 0x0100 0)) (fun t => t.pair .ax == 0x8000 && t.cy)
    ∧ gives (exec .rolA (withPairs 0x8000 0)) (fun t => t.pair .ax == 0x0100 && t.cy)
    ∧ gives (exec .rorcA (withPairs 0x0100 0)) (fun t => t.pair .ax == 0x0000 && t.cy)
    ∧ gives (exec .rolcA (withPairs 0x8000 0)) (fun t => t.pair .ax == 0x0000 && t.cy)
    ∧ gives (exec .rolwcBc (small.setPair .bc 0x8000)) (fun t => t.pair .bc == 0x0000 && t.cy) := by decide +kernel

/-- AND1 CY,FFE7FH.3 of F7H (E48); XOR1 CY,A.7 (E50); SET1 FFE55H.1 (E51). -/
theorem test_bits :
    gives (exec (.and1CySaddrBit 0x7F 3) ((withByte small 0xFFE7F 0xF7).setCy true)) (fun t => !t.cy)
    ∧ gives (exec (.xor1CyABit 7) ((withPairs 0x8000 0).setCy true)) (fun t => !t.cy)
    ∧ gives (exec (.set1SaddrBit 0x55 1) (withByte small 0xFFE55 0x80)) (fun t => t.cell 0xFFE55 == 0x82) := by
  decide +kernel

/-- CALL !!02000H: the frame and the target (48_call_return_stack.md R330, R331). -/
theorem test_call : gives (exec (.callAbs20 0x02000) { small with pc := 0x31234 })
    (fun t => t.pc == 0x02000 && t.sp == 0xFDFC && t.cell 0xFFDFF == 0x00 && t.cell 0xFFDFE == 0x03
      && t.cell 0xFFDFD == 0x12 && t.cell 0xFFDFC == 0x34) = true := by decide +kernel

/-- CALLT [0080H] (E55). -/
theorem test_callt : gives (exec (.callt 0) (withByte (withByte small 0x80 0x00) 0x81 0x20))
    (fun t => t.pc == 0x02000 && t.sp == 0xFDFC) = true := by decide +kernel

/-- BRK (R338): PSW on the stack as it was, IE cleared, PC from 0007EH. -/
theorem test_brk : gives (exec .brk { withByte (withByte small 0x7E 0x78) 0x7F 0x56 with psw := Psw.ofByte 0x86 })
    (fun t => t.pc == 0x05678 && t.psw.toByte == 0x06 && t.cell 0xFFDFF == 0x86 && t.sp == 0xFDFC) = true := by
  decide +kernel

/-- RETI (R334): PC and PSW from the frame. -/
theorem test_reti : gives
    (exec .reti (withByte (withByte (withByte (withByte small 0xFFE00 0x34) 0xFFE01 0x12) 0xFFE02 0x03) 0xFFE03 0x86))
    (fun t => t.pc == 0x31234 && t.psw.toByte == 0x86 && t.sp == 0xFE04 && t.inhibit) = true := by decide +kernel

/-- PUSH AX (E56). -/
theorem test_push : gives (exec (.pushRp .ax) (withPairs 0x1234 0))
    (fun t => t.sp == 0xFDFE && t.cell 0xFFDFE == 0x34 && t.cell 0xFFDFF == 0x12) = true := by decide +kernel

/-- POP AX (E57). -/
theorem test_pop : gives (exec (.popRp .ax) { withByte (withByte small 0xFFDFE 0x34) 0xFFDFF 0x12 with sp := 0xFDFE })
    (fun t => t.pair .ax == 0x1234 && t.sp == 0xFE00) = true := by decide +kernel

/-- ADDW SP,#12H and SUBW SP,#12H (E59, E60). -/
theorem test_sp :
    gives (exec (.addwSpImm 0x12) small) (fun t => t.sp == 0xFE12)
    ∧ gives (exec (.subwSpImm 0x12) small) (fun t => t.sp == 0xFDEE) := by decide +kernel

/-- BC $00300H from both ends of its reach (E62, E63). -/
theorem test_bc :
    gives (exec (.bc 0x7F) ({ small with pc := 0x00281 }.setCy true)) (fun t => t.pc == 0x00300)
    ∧ gives (exec (.bc 0x80) ({ small with pc := 0x00380 }.setCy true)) (fun t => t.pc == 0x00300) := by decide +kernel

/-- BTCLR PSW.0,$00356H (E71). -/
theorem test_btclr : gives (exec (.btclrPswBit 0 0x52) ({ small with pc := 0x00304 }.setCy true))
    (fun t => t.pc == 0x00356 && !t.cy && t.inhibit) = true := by decide +kernel

/-- SEL RB2 (E84). -/
theorem test_sel : gives (exec (.sel .rb2) small) (fun t => t.psw.toByte == 0x26 && t.rbs == .rb2) = true := by
  decide +kernel

/-- A whole step: MOV A,#4DH fetched, decoded and run (E1). -/
theorem test_step : gives (step (small.withFetchWord 16 0x4D51)) (fun t => t.pair .ax == 0x4D00 && t.pc == 0x01002)
    = true := by decide +kernel

/-- A whole step that accepts an interrupt: the vector at 00008H (60_exceptions.md R406). -/
theorem test_interrupt : gives
    (step (answering { withByte (withByte small 0x08 0x00) 0x09 0x30 with psw := Psw.ofByte 0x86 } (asks 0x08 true)))
    (fun t => t.pc == 0x03000 && t.psw.toByte == 0x00 && t.sp == 0xFDFC && t.cell 0xFFDFF == 0x86
      && t.cell 0xFFDFD == 0x10) = true := by decide +kernel

/-- What `Irq` is consulted with after a store to an SFR, a mask register say: it sees the store (60_exceptions.md R403,
R421). -/
theorem test_irq_sees_sfr_store : gives (exec (.movSfrImm 0xE4 0xFE) { small with psw := Psw.ofByte 0x86 })
    (fun t => t.irqView == { time := 0, ie := true, isp := 3, history := [.write8 0xFFFE4 0xFE] }) = true := by
  decide +kernel

/-- Of three stores to one byte fetch may have seen the second and not the third (20_memory.md R75): 11H was seen, then
22H is stored and seen, then 33H is stored and not seen. -/
theorem test_fetch_between_stores :
    (catchUp (fun _ => false) [(0xFE000, 0x33)] [(0xFE000, 0x33)]
      (catchUp (fun _ => true) [(0xFE000, 0x22)] [(0xFE000, 0x22)] [(0xFE000, 0x11)])).read 0xFE000 = 0x22 := by decide

/-- A store to flash and an unusable address stop. -/
theorem test_stops :
    exec .movEsAtHlA { withPairs 0 0x1000 with es := 0x00 } = .refused .flashStore
      ∧ exec .movAAtHl { smallS1 with bank0 := { Bank.zero with h := 0xFE, l := 0xE0 } } = .fault .unusableArea
      ∧ exec .prefixByte small = .refused .prefixWithoutEsForm := ⟨rfl, rfl, rfl⟩

/-! ## Witnesses: states and operands that meet the hypotheses of each statement -/

theorem usable {c : Config} {off : Word} (h : stackPlace c off ≠ .registers) : StackUsable c off := h

theorem legal_small : small.Legal := by constructor <;> decide

theorem legal_smallS1 : smallS1.Legal := by constructor <;> decide

/-- HL = FE20H: the RAM byte FFE20H is 5AH. -/
def pointing : State := withByte (withPairs 0x1234 0xFE20) 0xFFE20 0x5A

theorem legal_pointing : pointing.Legal := by constructor <;> decide

/-- `small` with a five-byte NOP sequence at its PC. -/
def atNops : State := small.withFetchWord 40 0

theorem legal_atNops : atNops.Legal := by constructor <;> decide +kernel

theorem wit_EncodeThenDecode : (Instr.movRImm .a 0x4D).wf .s3 = true ∧ Instr.movRImm .a 0x4D ≠ .prefixByte := by decide

theorem wit_DecodedBytes : decode .s3 [0x51, 0x4D, 0xFF] = .ok (.movRImm .a 0x4D, 2) := by rfl

/-- Blank cells of each map at the ends of their ranges, and cells of the 3rd and 4th map beside them that are not blank. -/
theorem wit_BlankCells :
    (0x19 : Byte) ∈ blank61 ∧ (0xF1 : Byte) ∈ blank61 ∧ (0x90 : Byte) ∈ blank71 ∧ (0xF8 : Byte) ∈ blank71
      ∧ (0x8F : Byte) ∉ blank71 ∧ (0xFF : Byte) ∉ blank71
      ∧ (∀ b ∈ [0x06, 0x0F, 0x16, 0x87, 0xFB], blank31 b) ∧ ∀ b ∈ [0x05, 0x17, 0x7B, 0x8C, 0xFF], ¬ blank31 b := by
  unfold blank31; decide +kernel

theorem wit_Prefix : decode .s3 [0x11, 0x8B] = .ok (.movAEsAtHl, 2) ∧ Instr.movAEsAtHl ≠ .prefixByte := ⟨rfl, by decide⟩

theorem encode_length_le (i : Instr) : (encode i).length ≤ 5 := by
  cases i <;> exact Nat.le_of_ble_eq_true rfl

/-- A prefixed instruction has itself no `ES:` form (it is 5 bytes long already), and 21H is no code. -/
theorem wit_Prefix_without_form :
    decode .s3 [0x11, 0xCF, 0x00, 0x00, 0x00] = .ok (.movEsAbsImm 0x0000 0x00, 5)
      ∧ (¬ ∃ i, encode i = 0x11 :: encode (.movEsAbsImm 0x0000 0x00)) ∧ decode .s3 [0x21] = .error .unassigned :=
  ⟨rfl, fun ⟨i, h⟩ => absurd (h ▸ encode_length_le i) (by decide), rfl⟩

theorem wit_StepRuns :
    (currentInput atNops).reset = false ∧ atNops.mode = .run ∧ pendingRequest atNops (currentInput atNops).request = none
      ∧ atNops.skip = false
      ∧ decode atNops.cfg.core (fetchBytes { tick atNops with mode := .run } 5 atNops.pc) = .ok (.nop, 1) :=
  ⟨rfl, rfl, rfl, rfl, rfl⟩

/-- The same from HALT mode at a release. -/
theorem wit_StepRuns_released :
    let s := answering { atNops with mode := RunMode.halt } ⟨false, true, none⟩
    (currentInput s).reset = false ∧ (currentInput s).release = true
      ∧ pendingRequest s (currentInput s).request = none
      ∧ decode s.cfg.core (fetchBytes { tick s with mode := .run } 5 s.pc) = .ok (.nop, 1) := ⟨rfl, rfl, rfl, rfl⟩

theorem wit_Skipped :
    let s := { atNops with skip := true, inhibit := true }
    (currentInput s).reset = false ∧ s.mode = .run ∧ pendingRequest s (currentInput s).request = none ∧ s.skip = true
      ∧ Instr.nop ≠ .prefixByte
      ∧ decode s.cfg.core (fetchBytes { tick s with mode := .run } 5 s.pc) = .ok (.nop, 1) :=
  ⟨rfl, rfl, rfl, rfl, by decide, rfl⟩

/-- Just above flash, just below RAM, and the first byte of the register area are no code; the bytes next to them
are. -/
theorem wit_FetchSees :
    ([0x20000, 0xFEEFF, 0xFFEE0].map (fetchable Config.initial) = [false, false, false])
      ∧ ([0x1FFFF, 0xFEF00, 0xFFEDF].map (fetchable Config.initial) = [true, true, true])
      ∧ (let s := answering { small with pc := 0x20000 } quietInput
        s.Legal ∧ (currentInput s).reset = false ∧ s.mode = .run ∧ pendingRequest s (currentInput s).request = none
          ∧ fetchable s.cfg s.pc.toNat = false) :=
  ⟨rfl, rfl, by constructor <;> decide, rfl, rfl, rfl, rfl⟩

/-- A maskable request with IE = 1 and a vector at an end of its range; a frame below SP. -/
def asked (v : Nat) (ie maskable : Bool) : State :=
  answering { small with psw := { small.psw with ie } } (asks v maskable)

theorem wit_Interrupt :
    (asked 0x7C true true).Legal ∧ (currentInput (asked 0x7C true true)).reset = false
      ∧ (asked 0x7C true true).mode = .run ∧ (asked 0x7C true true).inhibit = false
      ∧ (currentInput (asked 0x7C true true)).request = some ⟨0x7C, true, 0⟩ ∧ (asked 0x7C true true).psw.ie = true
      ∧ 0x7C % 2 = 0 ∧ FrameUsable (asked 0x7C true true) :=
  ⟨by constructor <;> decide, rfl, rfl, rfl, rfl, rfl, rfl, usable (by decide), usable (by decide)⟩

theorem wit_Interrupt_nonmaskable :
    (asked 0x02 false false).Legal ∧ (currentInput (asked 0x02 false false)).request = some ⟨0x02, false, 0⟩
      ∧ FrameUsable (asked 0x02 false false) := ⟨by constructor <;> decide, rfl, usable (by decide), usable (by decide)⟩

/-- Held by IE = 0, in run mode, and by the window, in standby without a release. -/
theorem wit_Held :
    let s := asked 0x02 false true
    let t := answering { small with inhibit := true, mode := .halt } (asks 0x02 false)
    (currentInput s).reset = false ∧ (currentInput s).request = some ⟨0x02, true, 0⟩ ∧ s.psw.ie = false ∧ s.mode = .run
      ∧ (currentInput t).reset = false ∧ (currentInput t).request = some ⟨0x02, false, 0⟩ ∧ t.inhibit = true
      ∧ t.mode ≠ .run ∧ (currentInput t).release = false := by decide

theorem wit_Standby :
    let s := answering { small with mode := .stop } quietInput
    let t := answering { small with mode := .halt } ⟨false, true, none⟩
    s.mode ≠ .run ∧ (currentInput s).reset = false ∧ (currentInput s).release = false
      ∧ t.mode ≠ .run ∧ (currentInput t).reset = false ∧ (currentInput t).release = true := by decide

theorem wit_ResetSignal :
    let s := answering { small with mode := .halt } ⟨true, false, none⟩
    s.Legal ∧ (currentInput s).reset = true := ⟨by constructor <;> decide, rfl⟩

/-- A legal state that steps (for `EveryStepKeepsStatesLegal` and `NoStepChangesFlash`). -/
theorem wit_EveryStep : atNops.Legal ∧ ∃ t, step atNops = .next t := ⟨legal_atNops, _, rfl⟩

theorem wit_OnlyListed :
    small.inhibit = false ∧ small.skip = false ∧ (∃ t, exec .skz small = .next t) ∧ ∃ t, exec .nop small = .next t :=
  ⟨rfl, rfl, ⟨_, rfl⟩, _, rfl⟩

/-- A sum of FFFFH is an address, a sum of 10000H is refused. -/
theorem wit_Operands :
    memAddr (withPairs 0 0xFF00) (.based .f .hl 0xFF) = .ok (.data 0xFFFFF)
      ∧ memAddr (withPairs 0 0xFF01) (.based .f .hl 0xFF) = .error (.refused .addressSumOverflow)
      ∧ memAddr small (.saddr 0x1F) = .ok (.data 0xFFF1F) ∧ memAddr small (.saddr 0x20) = .ok (.data 0xFFE20) := by
  decide +kernel

/-- Boundary addresses of every clause of `DataReadsResolveByArea` and what is there. -/
theorem wit_DataReads :
    ([0xFFFF0, 0xFFFF3].map (place small) = [.cpu (.macr 0), .cpu (.macr 3)])
      ∧ ([0xFFF00, 0xFFFF7, 0xFFFFB, 0xFFFFF].map (place small)
        = [.device 0xFFF00, .device 0xFFFF7, .device 0xFFFFB, .device 0xFFFFF])
      ∧ ([0xFFFF0, 0xFFFF3].map (place smallS1) = [.device 0xFFFF0, .device 0xFFFF3])
      ∧ ([0xF0000, 0xF07FF].map (place small) = [.device 0xF0000, .device 0xF07FF])
      ∧ ([0xFEF00, 0xFFEDF].map (place small) = [.ram 0xFEF00, .ram 0xFFEDF])
      ∧ ([0xFFEE0, 0xFFEFF].map (place small) = [.gpr .rb3 .x, .gpr .rb0 .h])
      ∧ ([0xFFEE0, 0xFFEF7].map (place smallS1) = [.unusable, .unusable])
      ∧ ([0xF2000, 0xFEEFF].map (place small) = [.mirror 0x2000 0xF2000, .mirror 0xEEFF 0xFEEFF])
      ∧ ([0x00000, 0x1FFFF].map (place small) = [.codeFlash 0x00000, .codeFlash 0x1FFFF])
      ∧ ([0x20000, 0xEFFFF, 0xF0800, 0xF1FFF].map (place small) = [.unusable, .unusable, .unusable, .unusable]) := by
  decide +kernel

/-- A product with data flash F1000H-F1FFFH. -/
def withDataFlash : State := { small with cfg := { Config.initial with dflash := some (0xF1000, 0xF1FFF) } }

theorem wit_DataFlash :
    withDataFlash.Legal ∧ withDataFlash.cfg.dflash = some (0xF1000, 0xF1FFF)
      ∧ ([0xF1000, 0xF1FFF].map (place withDataFlash) = [.dataFlash 0xF1000, .dataFlash 0xF1FFF]) :=
  ⟨by constructor <;> decide, rfl, rfl⟩

/-- 64 KB of flash and MAA = 1: the source of every mirror address lies above FLASH_TOP; right after a PMC write or not. -/
def shortFlash (delay : Nat) : State :=
  { small with cfg := { Config.initial with flashTop := 0x0FFFF }, pmc := 1, pmcDelay := delay }

/-- A mirror source above FLASH_TOP: unusable, but right after a PMC write some byte (70_reset_and_hazards.md R452). -/
theorem wit_Mirror :
    (shortFlash 0).Legal ∧ (shortFlash 1).Legal ∧ inRanges (shortFlash 0).cfg.mirror 0xF2000 = true
      ∧ (shortFlash 0).cfg.flashTop < mirrorSource (shortFlash 0) 0xF2000 ∧ (shortFlash 0).pmcDelay ≠ 1
      ∧ place (shortFlash 0) 0xF2000 = .unusable ∧ place (shortFlash 1) 0xF2000 = .mirror 0x12000 0xF2000
      ∧ writeByte (shortFlash 0) 0xF2000 0 = .error (.fault .unusableArea)
      ∧ writeByte (shortFlash 1) 0xF2000 0 = .error (.refused .flashStore)
      ∧ ∃ v, readByte (shortFlash 1) 0xF2000 = .ok v :=
  ⟨by constructor <;> decide, by constructor <;> decide, rfl, by decide, by decide, rfl, rfl, rfl, rfl, _, rfl⟩

/-- The ends of the product SFR areas, and of the unusable ones. -/
theorem wit_Areas :
    (∀ n ∈ [0xF0000, 0xF07FF, 0xFFF00, 0xFFFEF, 0xFFFF4, 0xFFFF7, 0xFFFFB, 0xFFFFF], IsDevice .s3 n)
      ∧ (∀ n ∈ [0xEFFFF, 0xF0800, 0xFFEFF, 0xFFFF0, 0xFFFF3, 0xFFFF8, 0xFFFFA, 0xFFFFC, 0xFFFFE], ¬ IsDevice .s3 n)
      ∧ IsDevice .s1 0xFFFF0 ∧ ∀ n ∈ [0x20000, 0xEFFFF, 0xF0800, 0xF1FFF], IsUnusable Config.initial n := by
  unfold IsDevice IsUnusable; decide

/-- Each clause of `StoresOutsideWritableAreasStop`, at an end of its range. -/
theorem wit_Stores :
    small.Legal ∧ smallS1.Legal ∧ writeByte small 0x1FFFF 0 = .error (.refused .flashStore)
      ∧ writeByte withDataFlash 0xF1000 0 = .error (.refused .flashStore)
      ∧ writeByte small 0xFEEFF 0 = .error (.refused .flashStore)
      ∧ writeByte smallS1 0xFFEF7 0 = .error (.fault .unusableArea)
      ∧ writeByte smallS1 0xFFFFE 1 = .error (.refused .pmcOnS1)
      ∧ (∃ t, writeByte smallS1 0xFFFFE 2 = .ok t) :=
  ⟨legal_small, legal_smallS1, rfl, rfl, rfl, rfl, rfl, _, rfl⟩

/-- Move to flash: its hypotheses. -/
theorem wit_StoreToFlash :
    let s := { withPairs 0 0x1000 with es := 0x00 }
    Move8 .movEsAtHlA (.mem (.indirect .es .hl)) (.loc accA) ∧ (Src8.loc accA).value s = .ok 0
      ∧ memAddr s (.indirect .es .hl) = .ok (.data 0x01000) ∧ (0x01000 : Addr).toNat ≤ s.cfg.flashTop :=
  ⟨.movEsAtHlA, rfl, rfl, by decide⟩

/-- A move to an unusable place and, on S1, of 01H to PMC: the hypotheses of the last clause. -/
theorem wit_StoreStops :
    let s := { withPairs 0x0100 0xFFFE with cfg := smallS1.cfg }
    Move8 .movAtHlA (.mem (.indirect .f .hl)) (.loc accA) ∧ (Src8.loc accA).value s = .ok 0x01
      ∧ memAddr s (.indirect .f .hl) = .ok (.data 0xFFFFE) ∧ writeByte s 0xFFFFE 0x01 = .error (.refused .pmcOnS1)
      ∧ memAddr (withPairs 0 0x0800) (.indirect .f .hl) = .ok (.data 0xF0800)
      ∧ writeByte (withPairs 0 0x0800) 0xF0800 0 = .error (.fault .unusableArea) :=
  ⟨.movAtHlA, rfl, rfl, rfl, rfl, rfl⟩

/-- A pair of SFRs, a register beside an SFR, SP, and the word of [SP+byte]. -/
theorem wit_WordAccess_areas :
    IsDevice small.cfg.core 0xFFF00 ∧ IsDevice small.cfg.core 0xFFF01 ∧ ¬ IsDevice small.cfg.core 0xFFFFA
      ∧ readByte small 0xFFFF8 = .ok 0x00 ∧ readByte small 0xFFFF9 = .ok 0xFE
      ∧ readByte small 0xF0800 = .error (.fault .unusableArea)
      ∧ writeByte small 0xF0800 0 = .error (.fault .unusableArea) ∧ (∃ t, writeByte small 0xFFE20 0 = .ok t)
      ∧ memAddr small (.saddr 0x21) = .ok (.data 0xFFE21)
      ∧ (0xFE02 : Word).toNat = (small.sp.toNat + (0x03 : Byte).toNat) % 65536 / 2 * 2
      ∧ stackRead small 0xFE02 = .ok 0 ∧ stackRead small (0xFE02 + 1) = .ok 0
      ∧ stackRead small 0xFEE0 = .error (.refused .registerAreaStack) := by
  refine ⟨?_, ?_, ?_, rfl, rfl, rfl, rfl, ⟨_, rfl⟩, rfl, by decide, rfl, rfl, rfl⟩ <;> unfold IsDevice <;> decide

theorem wit_WordAccess :
    small.Legal ∧ (0xFFE20 : Addr).toNat = 2 * ((0xFFE21 : Addr).toNat / 2) ∧ small.cfg.ramBase ≤ (0xFEF00 : Addr).toNat
      ∧ (0xFFEDF : Addr).toNat < 0xFFEE0 := ⟨legal_small, by decide, by decide, by decide⟩

theorem wit_StoreThenLoad :
    small.Legal ∧ small.cfg.ramBase ≤ (0xFEF00 : Addr).toNat ∧ (0xFFEFE : Addr).toNat ≤ 0xFFEFF
      ∧ (0xFFEFE : Addr).toNat % 2 = 0 ∧ smallS1.Legal ∧ 0xFFEF8 ≤ (0xFFEF8 : Addr).toNat :=
  ⟨legal_small, by decide, by decide, by decide, legal_smallS1, by decide⟩

/-- Stack bytes at the ends of RAM, of the register area (of each core), and outside. -/
theorem wit_StackBytes :
    [0xEF00, 0xFEDF, 0xFEE0, 0xFEFF, 0xFF00, 0xEEFF].map (stackPlace small.cfg)
        = [.ram 0xFEF00, .ram 0xFFEDF, .registers, .registers, .outside 0xFFF00, .outside 0xFEEFF]
      ∧ [0xFEE0, 0xFEF7, 0xFEF8].map (stackPlace smallS1.cfg) = [.outside 0xFFEE0, .outside 0xFFEF7, .registers] := by decide +kernel

/-! Families: for each relation a row, its operand values and a writable destination, in memory where there is one. -/

theorem wit_Move8 :
    pointing.Legal ∧ Move8 .movAtHlA (.mem (.indirect .f .hl)) (.loc accA) ∧ (Src8.loc accA).value pointing = .ok 0x12
      ∧ Writable8 pointing 0x12 (.mem (.indirect .f .hl)) := ⟨legal_pointing, .movAtHlA, rfl, trivial⟩

theorem wit_Move8_cpu : Move8 (.movEsImm 0x07) (.mem opEs) (.imm 0x07) ∧ Writable8 small 0x07 (.mem opEs) :=
  ⟨.movEsImm _, fun h => absurd h.1 (by decide)⟩

theorem wit_MovePsw : small.Legal ∧ MovePsw (.movPswImm 0xFF) (.imm 0xFF) ∧ (Src8.imm 0xFF).value small = .ok 0xFF :=
  ⟨legal_small, .movPswImm _, rfl⟩

theorem wit_ExchangeMem :
    pointing.Legal ∧ ExchangeMem .xchAAtHl (.indirect .f .hl) ∧ (Loc8.mem (.indirect .f .hl)).value pointing = .ok 0x5A
      ∧ Writable8 pointing (pointing.reg .a) (.mem (.indirect .f .hl)) := ⟨legal_pointing, .xchAAtHl, rfl, trivial⟩

theorem wit_ExchangeReg : ExchangeReg .xchAX .x ∧ RegPair.bc ≠ .ax := ⟨.xchAX, by decide⟩

theorem wit_MoveString :
    pointing.Legal ∧ MoveString (.movsHlOffX 0) (.based .f .hl 0)
      ∧ Writable8 pointing (pointing.reg .x) (.mem (.based .f .hl 0)) := ⟨legal_pointing, .movsHlOffX _, trivial⟩

theorem wit_Move16 :
    pointing.Legal ∧ Move16 .movwAtHlAx (.mem (.indirect .f .hl)) (.loc accAX)
      ∧ (Src16.loc accAX).value pointing = .ok 0x1234 ∧ Writable16 pointing 0x1234 (.mem (.indirect .f .hl)) :=
  ⟨legal_pointing, .movwAtHlAx, rfl, trivial, trivial⟩

theorem wit_Add8 :
    pointing.Legal ∧ Add8 (.addcSaddrImm 0x20 0x5A) true (.mem (.saddr 0x20)) (.imm 0x5A)
      ∧ (Loc8.mem (.saddr 0x20)).value pointing = .ok 0x5A ∧ Writable8 pointing 0xB4 (.mem (.saddr 0x20)) :=
  ⟨legal_pointing, .addcSaddrImm _ _, rfl, trivial⟩

theorem wit_Sub8 :
    pointing.Legal ∧ Sub8 (.subSaddrImm 0x20 0x5B) false (.mem (.saddr 0x20)) (.imm 0x5B)
      ∧ (Loc8.mem (.saddr 0x20)).value pointing = .ok 0x5A ∧ (0xFF : Byte).toNat = (0x5A + 256 - (0x5B + 0)) % 256
      ∧ Writable8 pointing 0xFF (.mem (.saddr 0x20)) := ⟨legal_pointing, .subSaddrImm _ _, rfl, by decide, trivial⟩

theorem wit_Logic8 :
    pointing.Legal ∧ Logic8 (.andSaddrImm 0x20 0x00) (· &&& ·) (.mem (.saddr 0x20)) (.imm 0x00)
      ∧ (Loc8.mem (.saddr 0x20)).value pointing = .ok 0x5A ∧ Writable8 pointing 0x00 (.mem (.saddr 0x20)) :=
  ⟨legal_pointing, .andSaddrImm _ _, rfl, trivial⟩

theorem wit_Compare8 :
    pointing.Legal ∧ (Loc8.mem (.saddr 0x20)).value pointing = .ok 0x5A
      ∧ Compare8 (.cmpSaddrImm 0x20 0x5A) (.mem (.saddr 0x20)) (.imm 0x5A)
      ∧ CompareZero (.cmp0Saddr 0x20) (.mem (.saddr 0x20)) := ⟨legal_pointing, rfl, .cmpSaddrImm _ _, .cmp0Saddr _⟩

theorem wit_CompareString :
    pointing.Legal ∧ CompareString (.cmpsXHlOff 0) (.based .f .hl 0)
      ∧ (Loc8.mem (.based .f .hl 0)).value pointing = .ok 0x5A := ⟨legal_pointing, .cmpsXHlOff _, rfl⟩

theorem wit_WordArithmetic :
    pointing.Legal ∧ (Src16.imm 0xFFFF).value pointing = .ok 0xFFFF ∧ Add16 (.addwAxImm 0xFFFF) (.imm 0xFFFF)
      ∧ Sub16 (.subwAxImm 0xFFFF) (.imm 0xFFFF) ∧ Compare16 (.cmpwAxImm 0xFFFF) (.imm 0xFFFF) :=
  ⟨legal_pointing, rfl, .addwAxImm _, .subwAxImm _, .cmpwAxImm _⟩

/-- The S3 instructions, with a divisor of 0 and with another; a product below 0. -/
theorem wit_MulDiv :
    small.Legal ∧ small.cfg.core = .s3 ∧ (small.pair .de).toNat = 0
      ∧ ((small.setPair .de 2).pair .de).toNat = 2 ∧ (small.setPair .de 2).Legal
      ∧ ((0xFFFFFFFF : Nat) : Int) = ((1 : Int) * (-1)) % 2 ^ 32
      ∧ (((small.setPair .ax 1).setPair .bc 0xFFFF).pair .ax).toInt
          * (((small.setPair .ax 1).setPair .bc 0xFFFF).pair .bc).toInt = 1 * (-1) :=
  ⟨legal_small, rfl, by decide, by decide, by constructor <;> decide, by decide, by decide +kernel⟩

theorem wit_IncDec8 :
    pointing.Legal ∧ (Loc8.mem (.saddr 0x20)).value pointing = .ok 0x5A ∧ Inc8 (.incSaddr 0x20) (.mem (.saddr 0x20))
      ∧ (0x5B : Byte).toNat = (0x5A + 1) % 256 ∧ Writable8 pointing 0x5B (.mem (.saddr 0x20))
      ∧ Dec8 (.decSaddr 0x20) (.mem (.saddr 0x20)) ∧ (0x59 : Byte).toNat = (0x5A + 255) % 256
      ∧ Writable8 pointing 0x59 (.mem (.saddr 0x20)) :=
  ⟨legal_pointing, rfl, .incSaddr _, by decide, trivial, .decSaddr _, by decide, trivial⟩

theorem wit_IncDec16 :
    pointing.Legal ∧ (Loc16.pair .hl).value pointing = .ok 0xFE20 ∧ Inc16 (.incwRp .hl) (.pair .hl)
      ∧ (0xFE21 : Word).toNat = (0xFE20 + 1) % 65536 ∧ Dec16 (.decwRp .hl) (.pair .hl)
      ∧ (0xFE1F : Word).toNat = (0xFE20 + 65535) % 65536 ∧ Writable16 pointing 0xFE21 (.pair .hl)
      ∧ Writable16 pointing 0xFE1F (.pair .hl) :=
  ⟨legal_pointing, rfl, .incwRp _, by decide, .decwRp _, by decide, trivial, trivial⟩

/-- The ends of the counts of the byte and of the word shifts (the rotates need a legal state alone). -/
theorem wit_Shifts : small.Legal ∧ (1 : Fin 16).val = 1 ∧ (7 : Fin 16).val ≤ 7 ∧ (15 : Fin 16).val = 15 :=
  ⟨legal_small, rfl, by decide, rfl⟩

theorem wit_BitToCy :
    pointing.Legal ∧ BitToCy (.and1CySaddrBit 0x20 7) (· && ·) (.mem (.saddr 0x20)) 7
      ∧ (Loc8.mem (.saddr 0x20)).value pointing = .ok 0x5A ∧ PswBitToCy (.and1CyPswBit 0) (· && ·) 0 :=
  ⟨legal_pointing, .and1CySaddrBit _ _, rfl, .and1CyPswBit _⟩

theorem wit_BitStore :
    pointing.Legal ∧ BitStore (.set1SaddrBit 0x20 7) (some true) (.mem (.saddr 0x20)) 7
      ∧ (Loc8.mem (.saddr 0x20)).value pointing = .ok 0x5A
      ∧ (∀ j : Fin 8, (0xDA : Byte).getLsbD j.val = if j = 7 then true else (0x5A : Byte).getLsbD j.val)
      ∧ Writable8 pointing 0xDA (.mem (.saddr 0x20)) :=
  ⟨legal_pointing, .set1SaddrBit _ _, rfl, by decide, trivial⟩

theorem wit_PswBitStore :
    small.Legal ∧ PswBitStore .ei (some true) 7
      ∧ ∀ j : Fin 8, (0x86 : Byte).getLsbD j.val = if j = 7 then true else small.psw.toByte.getLsbD j.val :=
  ⟨legal_small, .ei, by decide⟩

/-- A frame can be pushed; a relative branch stays in flash; the targets of each form of CALL and BR. -/
theorem wit_Calls :
    small.Legal ∧ FrameUsable small ∧ BranchAllowed small (-1)
      ∧ (0x01FFF : Addr) = relTarget { small with pc := 0x02000 } (-1)
      ∧ (0x00000 : Addr).toNat = 65536 * (small.cs.toNat % 16) + (small.pair .ax).toNat
      ∧ (0x0FFFF : Addr).toNat = (small.cell (0x80 + 2 * 31)).toNat + 256 * (small.cell (0x81 + 2 * 31)).toNat :=
  ⟨legal_small, ⟨usable (by decide), usable (by decide)⟩, fun h => absurd h (by decide), by decide, by decide, by decide⟩

/-- Four readable bytes of a frame, for RET, RETI, RETB, POP. -/
theorem wit_Frame :
    small.Legal ∧ stackRead small small.sp = .ok 0 ∧ stackRead small (small.sp + 1) = .ok 0
      ∧ stackRead small (small.sp + 2) = .ok 0 ∧ stackRead small (small.sp + 3) = .ok 0 :=
  ⟨legal_small, rfl, rfl, rfl, rfl⟩

theorem wit_Break :
    small.Legal ∧ small.inhibit = false ∧ small.skip = false ∧ FrameUsable small
      ∧ (0x0FFFF : Addr).toNat = (small.cell 0x7E).toNat + 256 * (small.cell 0x7F).toNat :=
  ⟨legal_small, rfl, rfl, ⟨usable (by decide), usable (by decide)⟩, by decide⟩

theorem wit_Push : small.Legal ∧ StackUsable small.cfg (small.sp - 2) := ⟨legal_small, usable (by decide)⟩

theorem wit_StackPointer :
    small.Legal ∧ (0xFEFE : Word).toNat = (small.sp.toNat + (0xFF : Byte).toNat) % 65536 / 2 * 2
      ∧ (0xFD00 : Word).toNat = (small.sp.toNat + 65536 - (0xFF : Byte).toNat) % 65536 / 2 * 2 :=
  ⟨legal_small, by decide, by decide⟩

theorem wit_Branch :
    small.Legal ∧ Branch (.bc 0x80) (fun p => p.cy) 0x80 ∧ small.psw.cy = false ∧ (small.setCy true).psw.cy = true
      ∧ (small.setCy true).Legal ∧ BranchAllowed (small.setCy true) (0x80 : Byte).toInt :=
  ⟨legal_small, .bc _, rfl, rfl, by constructor <;> decide, fun h => absurd h (by decide)⟩

theorem wit_BitBranch :
    pointing.Legal ∧ BitBranch (.btSaddrBit 0x20 1 0x7F) true (.mem (.saddr 0x20)) 1 0x7F
      ∧ BitBranch (.bfSaddrBit 0x20 1 0x7F) false (.mem (.saddr 0x20)) 1 0x7F
      ∧ (Loc8.mem (.saddr 0x20)).value pointing = .ok 0x5A ∧ (0x5A : Byte).toNat / 2 ^ 1 % 2 = 1
      ∧ PswBitBranch (.btPswBit 1 0x7F) true 1 0x7F ∧ BranchAllowed pointing (0x7F : Byte).toInt :=
  ⟨legal_pointing, .btSaddrBit _ _ _, .bfSaddrBit _ _ _, rfl, by decide, .btPswBit _ _, fun h => absurd h (by decide)⟩

theorem wit_BitClear :
    pointing.Legal ∧ BitClearBranch (.btclrSaddrBit 0x20 1 0x7F) (.mem (.saddr 0x20)) 1 0x7F
      ∧ (Loc8.mem (.saddr 0x20)).value pointing = .ok 0x5A
      ∧ (∀ j : Fin 8, (0x58 : Byte).getLsbD j.val = if j = 1 then false else (0x5A : Byte).getLsbD j.val)
      ∧ Writable8 pointing 0x58 (.mem (.saddr 0x20)) ∧ pointing.psw.toByte.getLsbD 0 = false
      ∧ pointing.psw.toByte.getLsbD 1 = true
      ∧ ∀ j : Fin 8, (0x04 : Byte).getLsbD j.val = if j = 1 then false else pointing.psw.toByte.getLsbD j.val :=
  ⟨legal_pointing, .btclrSaddrBit _ _ _, rfl, by decide, trivial, by decide, by decide, by decide⟩

/-- An instruction that ends at the second byte of RAM. -/
def atRamBase : State := { pointing with pc := 0xFEF02 }

/-- A branch from the first bytes of RAM backwards leaves it. -/
theorem leaves_ram : ¬ BranchAllowed atRamBase (0xFD : Byte).toInt := fun h => absurd (h (by decide)) (by decide)

theorem wit_BranchOutOfRam :
    atRamBase.Legal ∧ ¬ BranchAllowed atRamBase (0xFD : Byte).toInt ∧ ¬ BranchAllowed atRamBase (0xFFFD : Word).toInt
      ∧ Branch (.bnc 0xFD) (fun p => !p.cy) 0xFD ∧ (!atRamBase.psw.cy) = true
      ∧ BitBranch (.btSaddrBit 0x20 1 0xFD) true (.mem (.saddr 0x20)) 1 0xFD
      ∧ (Loc8.mem (.saddr 0x20)).value atRamBase = .ok 0x5A ∧ decide ((0x5A : Byte).toNat / 2 ^ 1 % 2 = 1) = true
      ∧ PswBitBranch (.btPswBit 1 0xFD) true 1 0xFD ∧ atRamBase.psw.toByte.getLsbD 1 = true
      ∧ BitClearBranch (.btclrSaddrBit 0x20 1 0xFD) (.mem (.saddr 0x20)) 1 0xFD
      ∧ (∀ j : Fin 8, (0x58 : Byte).getLsbD j.val = if j = 1 then false else (0x5A : Byte).getLsbD j.val)
      ∧ Writable8 atRamBase 0x58 (.mem (.saddr 0x20)) :=
  ⟨by constructor <;> decide, leaves_ram, fun h => absurd (h (by decide)) (by decide), .bnc _, rfl, .btSaddrBit _ _ _, rfl,
    rfl, .btPswBit _ _, by decide, .btclrSaddrBit _ _ _, by decide, trivial⟩

theorem wit_Skip : Skip .skh (fun p => !(p.z || p.cy)) := .skh

theorem wit_Select : small.Legal ∧ small.cfg.core ≠ .s1 := ⟨legal_small, by decide⟩


end Sys2Proof.Tests
end

section
/-!
SUPPORT. What every operation keeps, said once: a legal state stays legal, and the inhibit window, the skip and the
standby mode (10_state.md R36, R37) stay as they are. Each operation has one lemma, in the order of the model's
definitions; a composed operation's lemma is put together from those of its parts.
-/

namespace Sys2Proof.Machine

/-! ## The relation and its combinators -/

/-- From `s` to `t` the invariant carries over, and neither a hidden flag nor the product's parameters change. -/
structure Keeps (s t : State) : Prop where
  legal : s.Legal → t.Legal
  cfg : t.cfg = s.cfg
  inhibit : t.inhibit = s.inhibit
  skip : t.skip = s.skip
  mode : t.mode = s.mode

/-- Where the operation answers a state, that state is kept from `s`. -/
def KeepsIfOk (s : State) (r : Result) : Prop := ∀ t, r = .ok t → Keeps s t

theorem Keeps.refl (s : State) : Keeps s s := ⟨id, rfl, rfl, rfl, rfl⟩

theorem Keeps.trans {s t u : State} (h : Keeps s t) (g : Keeps t u) : Keeps s u :=
  ⟨fun l => g.legal (h.legal l), g.cfg.trans h.cfg, g.inhibit.trans h.inhibit, g.skip.trans h.skip, g.mode.trans h.mode⟩

theorem KeepsIfOk.ok {s t : State} (h : Keeps s t) : KeepsIfOk s (.ok t) := fun _ e => Except.ok.inj e ▸ h

theorem KeepsIfOk.error (s : State) (e : Stop) : KeepsIfOk s (.error e) := by
  rintro _ ⟨⟩

theorem KeepsIfOk.after {s t : State} {r : Result} (h : Keeps s t) (g : KeepsIfOk t r) : KeepsIfOk s r :=
  fun u e => h.trans (g u e)

/-- An operation that first reads a value. -/
theorem KeepsIfOk.reading {s : State} {α : Type} {x : Except Stop α} {f : α → Result} (h : ∀ a, KeepsIfOk s (f a)) :
    KeepsIfOk s (x >>= f) := by
  intro t e
  cases x with
  | error _ => cases e
  | ok a => exact h a t e

/-- Two operations in a row. -/
theorem KeepsIfOk.bind {s : State} {r : Result} {f : State → Result} (h : KeepsIfOk s r) (g : ∀ t, KeepsIfOk t (f t)) :
    KeepsIfOk s (r >>= f) := by
  intro u e
  cases r with
  | error _ => cases e
  | ok t => exact (h t rfl).trans (g t u e)

theorem Keeps.ite {s t u : State} {c : Prop} [Decidable c] (h : Keeps s t) (g : Keeps s u) :
    Keeps s (if c then t else u) := by
  split
  · exact h
  · exact g

theorem KeepsIfOk.ite {s : State} {c : Prop} [Decidable c] {q r : Result} (h : c → KeepsIfOk s q)
    (g : ¬ c → KeepsIfOk s r) : KeepsIfOk s (if c then q else r) := by
  split
  · exact h ‹_›
  · exact g ‹_›

/-! ## Registers and PSW -/

theorem keeps_withBank (s : State) (n : BankNo) (k : Bank) : Keeps s (s.withBank n k) :=
  ⟨fun h => h.withBank n k, by simp, by simp, by simp, by simp⟩

theorem keeps_setReg (s : State) (r : Reg) (v : Byte) : Keeps s (s.setReg r v) := keeps_withBank s _ _

theorem keeps_setPair (s : State) (p : RegPair) (v : Word) : Keeps s (s.setPair p v) :=
  (keeps_setReg s _ _).trans (keeps_setReg _ _ _)

theorem keeps_setPairs (s : State) (hi lo : RegPair) (v : DWord) : Keeps s (s.setPairs hi lo v) :=
  (keeps_setPair s _ _).trans (keeps_setPair _ _ _)

theorem keeps_withMacr (s : State) (m : DWord) : Keeps s { s with macr := m } :=
  ⟨fun h => { h with }, rfl, rfl, rfl, rfl⟩

/-- PSW replaced: on S1 its bits 5 and 3 must still be 0 (10_state.md R20; D17). -/
theorem keeps_withPsw (s : State) {p : Psw}
    (hp : s.cfg.core = .s1 → s.psw.rbs1 = false ∧ s.psw.rbs0 = false → p.rbs1 = false ∧ p.rbs0 = false) :
    Keeps s { s with psw := p } :=
  ⟨fun h => h.withPsw fun c => hp c (h.psw c), rfl, rfl, rfl, rfl⟩

theorem Psw.onCore_s1 (p : Psw) : (p.onCore .s1).rbs1 = false ∧ (p.onCore .s1).rbs0 = false := ⟨rfl, rfl⟩

/-- A PSW as the core holds it can always be put. -/
theorem keeps_withPsw_onCore (s : State) (p : Psw) : Keeps s { s with psw := p.onCore s.cfg.core } :=
  keeps_withPsw s fun c _ => c ▸ p.onCore_s1

theorem keeps_writePsw (s : State) (v : Byte) : Keeps s (s.writePsw v) := keeps_withPsw_onCore s _

theorem keeps_writePswBit (s : State) (i : Fin 8) (v : Bool) : Keeps s (s.writePswBit i v) := keeps_withPsw_onCore s _

theorem keeps_setCy (s : State) (v : Bool) : Keeps s (s.setCy v) := keeps_withPsw s fun _ h => h

theorem keeps_setAc (s : State) (v : Bool) : Keeps s (s.setAc v) := keeps_withPsw s fun _ h => h

theorem keeps_setZ (s : State) (v : Bool) : Keeps s (s.setZ v) := keeps_withPsw s fun _ h => h

theorem keeps_setFlags (s : State) (f : Flags) : Keeps s (s.setFlags f) := keeps_withPsw s fun _ h => h

theorem keeps_setFlags16 (s : State) (r : Alu16) : Keeps s (s.setFlags16 r) := keeps_setFlags s _

/-! ## The other control registers -/

theorem keeps_setSp (s : State) (v : Word) : Keeps s (s.setSp v) :=
  ⟨fun h => { h with sp := even_of_masked v }, rfl, rfl, rfl, rfl⟩

theorem keepsIfOk_writePmc (s : State) (v : Byte) : KeepsIfOk s (s.writePmc v) :=
  .ite (fun _ => .error s _) fun hn => .ok
    ⟨fun h => { h with
        pmc := byte_bit_mask v
        maa := fun c => and_one_of_bit (Bool.eq_false_iff.2 fun b => hn ⟨c, b⟩) }, rfl, rfl, rfl, rfl⟩

theorem keepsIfOk_writeCpu (s : State) (r : CpuSfr) (v : Byte) : KeepsIfOk s (s.writeCpu r v) := by
  cases r with
  | spl => exact .ok (keeps_setSp s _)
  | sph => exact .ok (keeps_setSp s _)
  | psw => exact .ok (keeps_writePsw s v)
  | cs => exact .ok ⟨fun h => { h with cs := byte_mask_mask v }, rfl, rfl, rfl, rfl⟩
  | es => exact .ok ⟨fun h => { h with es := byte_mask_mask v }, rfl, rfl, rfl, rfl⟩
  | pmc => exact keepsIfOk_writePmc s v
  | macr k => exact .ok (keeps_withMacr s _)

/-! ## Memory, the devices and the stack -/

theorem keeps_logAll (s : State) (e : List DevEvent) : Keeps s (s.logAll e) := ⟨fun h => h.logAll e, rfl, rfl, rfl, rfl⟩

theorem keeps_log (s : State) (e : DevEvent) : Keeps s (s.log e) := keeps_logAll s [e]

theorem keeps_withMem (s : State) (a : Nat) (v : Byte) : Keeps s { s with mem := s.mem.write a v } :=
  ⟨fun h => h.withMem a v, rfl, rfl, rfl, rfl⟩

theorem keepsIfOk_writeByte (s : State) (a : Addr) (v : Byte) : KeepsIfOk s (writeByte s a v) := by
  unfold writeByte
  cases place s a with
  | device n => exact .ok (keeps_log s _)
  | cpu r => exact keepsIfOk_writeCpu s r v
  | gpr n r => exact .ok (keeps_withBank s _ _)
  | ram n => exact .ok (keeps_withMem s n v)
  | dataFlash | mirror | codeFlash | unusable => exact .error s _

theorem keepsIfOk_writeWord (s : State) (a : Addr) (v : Word) : KeepsIfOk s (writeWord s a v) := by
  unfold writeWord
  cases deviceWord s a with
  | some n => exact .ok (keeps_log s _)
  | none => exact .bind (keepsIfOk_writeByte s _ _) fun t => keepsIfOk_writeByte t _ _

theorem keepsIfOk_stackWrite (s : State) (off : Word) (v : Byte) : KeepsIfOk s (stackWrite s off v) := by
  unfold stackWrite
  cases stackPlace s.cfg off with
  | ram a => exact .ok (keeps_withMem s a v)
  | registers => exact .error s _
  | outside a => exact .ok (.refl s)

theorem keepsIfOk_stackWriteWord (s : State) (off : Word) (hi lo : Byte) : KeepsIfOk s (stackWriteWord s off hi lo) :=
  .bind (keepsIfOk_stackWrite s _ _) fun t => keepsIfOk_stackWrite t _ _

theorem keepsIfOk_push (s : State) (hi lo : Byte) : KeepsIfOk s (push s hi lo) :=
  .bind (keepsIfOk_stackWriteWord s _ _ _) fun t => .ok (keeps_setSp t _)

theorem keepsIfOk_pushFrame (s : State) (top : Byte) (ret : Addr) : KeepsIfOk s (pushFrame s top ret) :=
  .bind (keepsIfOk_stackWriteWord s _ _ _) fun t => .bind (keepsIfOk_stackWriteWord t _ _ _) fun u =>
    .ok (keeps_setSp u _)

/-! ## Control transfers -/

theorem State.Legal.jump {s : State} (h : s.Legal) (target : Addr) : (Machine.jump s target).Legal :=
  { h with queue := h.mem }

theorem keeps_jump (s : State) (target : Addr) : Keeps s (jump s target) :=
  ⟨fun h => h.jump target, rfl, rfl, rfl, rfl⟩

theorem keepsIfOk_jumpRelative (s : State) (disp : Addr) : KeepsIfOk s (jumpRelative s disp) :=
  .ite (fun _ => .error s _) fun _ => .ok (keeps_jump s _)

theorem keepsIfOk_call (s : State) (target : Addr) : KeepsIfOk s (call s target) :=
  .bind (keepsIfOk_pushFrame s _ _) fun t => .ok (keeps_jump t target)

theorem keepsIfOk_callRelative (s : State) (disp : Addr) : KeepsIfOk s (callRelative s disp) :=
  .reading fun _ => keepsIfOk_call s _

theorem keepsIfOk_returnFromCall (s : State) : KeepsIfOk s (returnFromCall s) :=
  .reading fun _ => .ok ((keeps_setSp s _).trans (keeps_jump _ _))

theorem keepsIfOk_popPair (s : State) (p : RegPair) : KeepsIfOk s (popPair s p) :=
  .reading fun _ => .reading fun _ => .ok ((keeps_setPair s p _).trans (keeps_setSp _ _))

theorem keepsIfOk_popPsw (s : State) : KeepsIfOk s (popPsw s) :=
  .reading fun _ => .ok ((keeps_writePsw s _).trans (keeps_setSp _ _))

/-! ## Operands -/

theorem keepsIfOk_storeByte (s : State) (v : Byte) (ea : Ea) : KeepsIfOk s (storeByte s v ea) := by
  cases ea with
  | data a => exact keepsIfOk_writeByte s a v
  | stack off => exact keepsIfOk_stackWrite s off v

theorem keepsIfOk_storeWord (s : State) (v : Word) (ea : Ea) : KeepsIfOk s (storeWord s v ea) := by
  cases ea with
  | data a => exact keepsIfOk_writeWord s a v
  | stack off => exact keepsIfOk_stackWriteWord s _ _ _

theorem keeps_touchedByte (s : State) (ea : Ea) : Keeps s (touchedByte s ea) := by
  cases ea with
  | data a =>
    rw [touchedByte, touchByte_eq]
    exact keeps_logAll s _
  | stack off => exact .refl s

theorem Loc8.keeps_touched (s : State) (l : Loc8) : Keeps s (l.touched s) := l.touched_eq s ▸ keeps_logAll s _

theorem Src8.keeps_touched (s : State) (x : Src8) : Keeps s (x.touched s) := x.touched_eq s ▸ keeps_logAll s _

theorem Loc16.keeps_touched (s : State) (l : Loc16) : Keeps s (l.touched s) := l.touched_eq s ▸ keeps_logAll s _

theorem Src16.keeps_touched (s : State) (x : Src16) : Keeps s (x.touched s) := x.touched_eq s ▸ keeps_logAll s _

theorem Loc8.keepsIfOk_write (s : State) (v : Byte) (l : Loc8) : KeepsIfOk s (l.write s v) := by
  cases l with
  | reg r => exact .ok (keeps_setReg s r v)
  | mem m => exact .reading (keepsIfOk_storeByte s v)

theorem Loc16.keepsIfOk_write (s : State) (v : Word) (l : Loc16) : KeepsIfOk s (l.write s v) := by
  cases l with
  | pair p => exact .ok (keeps_setPair s p v)
  | mem m => exact .reading (keepsIfOk_storeWord s v)

/-! ## What the instruction families share -/

theorem keepsIfOk_move8 (dst : Loc8) (src : Src8) (s : State) : KeepsIfOk s (move8 dst src s) :=
  .reading fun v => .after (src.keeps_touched s) (dst.keepsIfOk_write _ v)

theorem keepsIfOk_move16 (dst : Loc16) (src : Src16) (s : State) : KeepsIfOk s (move16 dst src s) :=
  .reading fun v => .after (src.keeps_touched s) (dst.keepsIfOk_write _ v)

theorem keepsIfOk_exchangeReg (r : Reg) (s : State) : KeepsIfOk s (exchangeReg r s) :=
  .ok ((keeps_setReg s _ _).trans (keeps_setReg _ _ _))

theorem keepsIfOk_exchangeMem (m : MemOp) (s : State) : KeepsIfOk s (exchangeMem m s) :=
  .reading fun ea => .reading fun v =>
    .after ((keeps_touchedByte s ea).trans (keeps_setReg _ .a v)) (keepsIfOk_storeByte _ _ ea)

theorem keepsIfOk_exchangePair (p : RegPair) (s : State) : KeepsIfOk s (exchangePair p s) :=
  .ok ((keeps_setPair s _ _).trans (keeps_setPair _ _ _))

theorem keepsIfOk_moveString (m : MemOp) (s : State) : KeepsIfOk s (moveString m s) :=
  .bind (Loc8.keepsIfOk_write s _ _) fun t => .ok ((keeps_setZ t _).trans (keeps_setCy _ _))

theorem keepsIfOk_arith8 (f : Byte → Byte → Alu8) (dst : Loc8) (src : Src8) (s : State) :
    KeepsIfOk s (arith8 f dst src s) :=
  .reading fun _ => .reading fun _ => .bind
    (.after ((dst.keeps_touched s).trans (src.keeps_touched _)) (dst.keepsIfOk_write _ _))
    fun t => .ok (keeps_setFlags t _)

theorem keepsIfOk_logic8 (f : Byte → Byte → Byte) (dst : Loc8) (src : Src8) (s : State) :
    KeepsIfOk s (logic8 f dst src s) :=
  .reading fun _ => .reading fun _ => .bind
    (.after ((dst.keeps_touched s).trans (src.keeps_touched _)) (dst.keepsIfOk_write _ _))
    fun t => .ok (keeps_setZ t _)

theorem keepsIfOk_compare8 (dst : Loc8) (src : Src8) (s : State) : KeepsIfOk s (compare8 dst src s) :=
  .reading fun _ => .reading fun _ =>
    .ok (((dst.keeps_touched s).trans (src.keeps_touched _)).trans (keeps_setFlags _ _))

theorem keepsIfOk_compareZero (dst : Loc8) (s : State) : KeepsIfOk s (compareZero dst s) :=
  .reading fun _ => .ok ((dst.keeps_touched s).trans (keeps_setFlags _ _))

theorem keepsIfOk_compareString (m : MemOp) (s : State) : KeepsIfOk s (compareString m s) :=
  .reading fun _ => .ok ((Loc8.keeps_touched s (.mem m)).trans (keeps_setFlags _ _))

theorem keepsIfOk_step8 (f : Byte → Step8) (dst : Loc8) (s : State) : KeepsIfOk s (step8 f dst s) :=
  .reading fun _ => .bind (.after (dst.keeps_touched s) (dst.keepsIfOk_write _ _))
    fun t => .ok ((keeps_setZ t _).trans (keeps_setAc _ _))

theorem keepsIfOk_arith16 (f : Word → Word → Alu16) (src : Src16) (s : State) : KeepsIfOk s (arith16 f src s) :=
  .reading fun _ => .ok (((src.keeps_touched s).trans (keeps_setPair _ _ _)).trans (keeps_setFlags16 _ _))

theorem keepsIfOk_compare16 (src : Src16) (s : State) : KeepsIfOk s (compare16 src s) :=
  .reading fun _ => .ok ((src.keeps_touched s).trans (keeps_setFlags16 _ _))

theorem keepsIfOk_step16 (f : Word → Word) (dst : Loc16) (s : State) : KeepsIfOk s (step16 f dst s) :=
  .reading fun _ => .after (dst.keeps_touched s) (dst.keepsIfOk_write _ _)

theorem keepsIfOk_bitToCy (f : Bool → Bool → Bool) (src : Loc8) (bit : Fin 8) (s : State) :
    KeepsIfOk s (bitToCy f src bit s) :=
  .reading fun _ => .ok ((src.keeps_touched s).trans (keeps_setCy _ _))

theorem keepsIfOk_putBit8 (dst : Loc8) (bit : Fin 8) (v : Bool) (s : State) : KeepsIfOk s (putBit8 dst bit v s) :=
  .reading fun _ => .after (dst.keeps_touched s) (dst.keepsIfOk_write _ _)

theorem keepsIfOk_pswBitToCy (f : Bool → Bool → Bool) (bit : Fin 8) (s : State) : KeepsIfOk s (pswBitToCy f bit s) :=
  .ok (keeps_setCy s _)

theorem keepsIfOk_branchIf (cond : Bool) (disp : Byte) (s : State) : KeepsIfOk s (branchIf cond disp s) :=
  .ite (fun _ => keepsIfOk_jumpRelative s _) fun _ => .ok (.refl s)

theorem keepsIfOk_branchOnBit (want : Bool) (src : Loc8) (bit : Fin 8) (disp : Byte) (s : State) :
    KeepsIfOk s (branchOnBit want src bit disp s) :=
  .reading fun _ => .after (src.keeps_touched s) (keepsIfOk_branchIf _ _ _)

theorem keepsIfOk_branchClear (dst : Loc8) (bit : Fin 8) (disp : Byte) (s : State) :
    KeepsIfOk s (branchClear dst bit disp s) :=
  .reading fun _ => .ite
    (fun _ => .bind (.after (dst.keeps_touched s) (dst.keepsIfOk_write _ _)) fun t => keepsIfOk_jumpRelative t _)
    fun _ => .ok (dst.keeps_touched s)

theorem keepsIfOk_branchOnPswBit (want : Bool) (bit : Fin 8) (disp : Byte) (s : State) :
    KeepsIfOk s (branchOnPswBit want bit disp s) := keepsIfOk_branchIf _ _ s

theorem keepsIfOk_onS3 {s r : State} (h : Keeps s r) : KeepsIfOk s (onS3 s r) := .ite (fun _ => .ok h) fun _ => .error s _

theorem keeps_markDivision (s : State) : Keeps s (markDivision s) := ⟨fun h => { h with }, rfl, rfl, rfl, rfl⟩

theorem keeps_spoilDivision (s : State) : Keeps s (spoilDivision s) := by
  unfold spoilDivision
  split
  · exact keeps_withBank s _ _
  · exact .refl s

/-! ## Exceptions -/

/-- PSW replaced, the window and the skip ended. -/
theorem State.Legal.withPsw_clear {s : State} (h : s.Legal) {p : Psw}
    (hp : s.cfg.core = .s1 → p.rbs1 = false ∧ p.rbs0 = false) :
    ({ s with psw := p, inhibit := false, skip := false } : State).Legal :=
  { h.withPsw hp with
    skip := fun e => absurd e Bool.false_ne_true
    standby := fun _ => ⟨rfl, rfl⟩ }

/-- Taking an exception ends the window and the skip (60_exceptions.md R406). -/
theorem takeException_ok {s t : State} {vector : Nat} {isp : Option (BitVec 2)}
    (h : takeException s vector isp = .ok t) :
    (s.Legal → t.Legal) ∧ t.cfg = s.cfg ∧ t.inhibit = false ∧ t.skip = false ∧ t.mode = s.mode := by
  unfold takeException at h
  cases hp : pushFrame s s.psw.toByte s.pc with
  | error e => rw [hp] at h; cases h
  | ok u =>
    rw [hp] at h
    cases h
    have k := keepsIfOk_pushFrame s _ _ u hp
    refine ⟨fun l => ((k.legal l).withPsw_clear fun c => ?_).jump _, k.cfg, rfl, rfl, k.mode⟩
    have hs := l.psw (k.cfg ▸ c)
    cases isp <;> exact hs

/-- An accepted request leaves a legal state. -/
theorem acceptInterrupt_legal {s t : State} {q : IrqRequest} (l : s.Legal) (h : acceptInterrupt s q = .ok t) :
    t.Legal := by
  unfold acceptInterrupt at h
  split at h
  · cases he : takeException (spoilDivision s) q.vector (some q.newIsp) with
    | error e => rw [he] at h; cases h
    | ok u =>
      rw [he] at h
      cases h
      exact { (takeException_ok he).1 ((keeps_spoilDivision s).legal l) with }
  · cases h

/-! ## Opening the inhibit window -/

/-- From `s` to `t` the inhibit window is opened (10_state.md R36) and otherwise all is kept; the invariant carries over
in run mode only, since no window is open in standby. -/
structure Opens (s t : State) : Prop where
  legal : s.Legal → s.mode = .run → t.Legal
  inhibit : t.inhibit = true
  skip : t.skip = s.skip
  mode : t.mode = s.mode

/-- Where the operation answers a state, the window is open in it. -/
def OpensIfOk (s : State) (r : Result) : Prop := ∀ t, r = .ok t → Opens s t

theorem Keeps.opens {s t : State} (h : Keeps s t) : Opens s (holdInterrupts t) :=
  ⟨fun l m => (h.legal l).holdInterrupts (h.mode.trans m), rfl, h.skip, h.mode⟩

theorem Opens.trans {s t u : State} (h : Opens s t) (g : Keeps t u) : Opens s u :=
  ⟨fun l m => g.legal (h.legal l m), g.inhibit.trans h.inhibit, g.skip.trans h.skip, g.mode.trans h.mode⟩

theorem OpensIfOk.ok {s t : State} (h : Opens s t) : OpensIfOk s (.ok t) := fun _ e => Except.ok.inj e ▸ h

theorem OpensIfOk.reading {s : State} {α : Type} {x : Except Stop α} {f : α → Result} (h : ∀ a, OpensIfOk s (f a)) :
    OpensIfOk s (x >>= f) := by
  intro t e
  cases x with
  | error _ => cases e
  | ok a => exact h a t e

theorem OpensIfOk.map {s : State} {r : Result} {f : State → State} (h : OpensIfOk s r) (g : ∀ t, Keeps t (f t)) :
    OpensIfOk s (r.map f) := by
  intro u e
  cases r with
  | error _ => cases e
  | ok t =>
    cases e
    exact (h t rfl).trans (g t)

theorem opensIfOk_holding {s : State} {r : Result} (h : KeepsIfOk s r) : OpensIfOk s (holding r) := by
  intro u e
  cases r with
  | error _ => cases e
  | ok t =>
    cases e
    exact (h t rfl).opens

theorem opensIfOk_putPswBit (bit : Fin 8) (v : Bool) (s : State) : OpensIfOk s (putPswBit bit v s) :=
  .ok (keeps_writePswBit s bit v).opens

theorem opensIfOk_branchClearPswBit (bit : Fin 8) (disp : Byte) (s : State) :
    OpensIfOk s (branchClearPswBit bit disp s) := by
  unfold branchClearPswBit
  split
  · exact fun t h => (keeps_writePswBit s bit false).opens.trans (keepsIfOk_jumpRelative _ _ t h)
  · exact .ok (Keeps.refl s).opens

theorem opensIfOk_returnFromException (s : State) : OpensIfOk s (returnFromException s) :=
  .reading fun target => .reading fun psw =>
    .ok (((keeps_writePsw s psw).trans (keeps_setSp _ (s.sp + 4))).opens.trans (keeps_jump _ target))

end Sys2Proof.Machine
end

section
/-!
SUPPORT. What running one instruction does to the hidden flags and to the invariant, said once for every row: by the
meanings the families share, then by the rows outside any family.
-/

namespace Sys2Proof.Machine

/-- Where the outcome is a next state, that state is kept from `s`. -/
def KeepsIfNext (s : State) (o : Host.Outcome State Fault Refusal) : Prop := ∀ t, o = .next t → Keeps s t

theorem finish_eq_next_iff {r : Result} {t : State} : finish r = .next t ↔ r = .ok t := by
  rcases r with (_ | _) | _ <;> simp [finish]

theorem keeps_finish {s : State} {r : Result} (h : KeepsIfOk s r) : KeepsIfNext s (finish r) :=
  fun t e => h t (finish_eq_next_iff.1 e)

theorem keeps_next {s t : State} (h : Keeps s t) : KeepsIfNext s (.next t) := fun _ e => Host.Outcome.next.inj e ▸ h

/-- Where the outcome is a next state, the window is open in it. -/
def OpensIfNext (s : State) (o : Host.Outcome State Fault Refusal) : Prop := ∀ t, o = .next t → Opens s t

theorem opens_finish {s : State} {r : Result} (h : OpensIfOk s r) : OpensIfNext s (finish r) :=
  fun t e => h t (finish_eq_next_iff.1 e)

end Sys2Proof.Machine

namespace Sys2Proof.Forms

open Sys2Proof.Machine

/-! ## The families that open no window -/

theorem Move8.keeps {i dst src} (h : Move8 i dst src) (s : State) : KeepsIfNext s (exec i s) :=
  h.exec_eq s ▸ keeps_finish (keepsIfOk_move8 _ _ s)

theorem ExchangeReg.keeps {i r} (h : ExchangeReg i r) (s : State) : KeepsIfNext s (exec i s) :=
  h.exec_eq s ▸ keeps_finish (keepsIfOk_exchangeReg _ s)

theorem ExchangeMem.keeps {i m} (h : ExchangeMem i m) (s : State) : KeepsIfNext s (exec i s) :=
  h.exec_eq s ▸ keeps_finish (keepsIfOk_exchangeMem _ s)

theorem MoveString.keeps {i m} (h : MoveString i m) (s : State) : KeepsIfNext s (exec i s) :=
  h.exec_eq s ▸ keeps_finish (keepsIfOk_moveString _ s)

theorem Move16.keeps {i dst src} (h : Move16 i dst src) (s : State) : KeepsIfNext s (exec i s) :=
  h.exec_eq s ▸ keeps_finish (keepsIfOk_move16 _ _ s)

theorem Add8.keeps {i c dst src} (h : Add8 i c dst src) (s : State) : KeepsIfNext s (exec i s) :=
  h.exec_eq s ▸ keeps_finish (keepsIfOk_arith8 _ _ _ s)

theorem Sub8.keeps {i c dst src} (h : Sub8 i c dst src) (s : State) : KeepsIfNext s (exec i s) :=
  h.exec_eq s ▸ keeps_finish (keepsIfOk_arith8 _ _ _ s)

theorem Logic8.keeps {i f dst src} (h : Logic8 i f dst src) (s : State) : KeepsIfNext s (exec i s) :=
  h.exec_eq s ▸ keeps_finish (keepsIfOk_logic8 _ _ _ s)

theorem Compare8.keeps {i dst src} (h : Compare8 i dst src) (s : State) : KeepsIfNext s (exec i s) :=
  h.exec_eq s ▸ keeps_finish (keepsIfOk_compare8 _ _ s)

theorem CompareZero.keeps {i dst} (h : CompareZero i dst) (s : State) : KeepsIfNext s (exec i s) :=
  h.exec_eq s ▸ keeps_finish (keepsIfOk_compareZero _ s)

theorem CompareString.keeps {i m} (h : CompareString i m) (s : State) : KeepsIfNext s (exec i s) :=
  h.exec_eq s ▸ keeps_finish (keepsIfOk_compareString _ s)

theorem Add16.keeps {i src} (h : Add16 i src) (s : State) : KeepsIfNext s (exec i s) :=
  h.exec_eq s ▸ keeps_finish (keepsIfOk_arith16 _ _ s)

theorem Sub16.keeps {i src} (h : Sub16 i src) (s : State) : KeepsIfNext s (exec i s) :=
  h.exec_eq s ▸ keeps_finish (keepsIfOk_arith16 _ _ s)

theorem Compare16.keeps {i src} (h : Compare16 i src) (s : State) : KeepsIfNext s (exec i s) :=
  h.exec_eq s ▸ keeps_finish (keepsIfOk_compare16 _ s)

theorem Inc8.keeps {i dst} (h : Inc8 i dst) (s : State) : KeepsIfNext s (exec i s) :=
  h.exec_eq s ▸ keeps_finish (keepsIfOk_step8 _ _ s)

theorem Dec8.keeps {i dst} (h : Dec8 i dst) (s : State) : KeepsIfNext s (exec i s) :=
  h.exec_eq s ▸ keeps_finish (keepsIfOk_step8 _ _ s)

theorem Inc16.keeps {i dst} (h : Inc16 i dst) (s : State) : KeepsIfNext s (exec i s) :=
  h.exec_eq s ▸ keeps_finish (keepsIfOk_step16 _ _ s)

theorem Dec16.keeps {i dst} (h : Dec16 i dst) (s : State) : KeepsIfNext s (exec i s) :=
  h.exec_eq s ▸ keeps_finish (keepsIfOk_step16 _ _ s)

theorem BitToCy.keeps {i f src b} (h : BitToCy i f src b) (s : State) : KeepsIfNext s (exec i s) :=
  h.exec_eq s ▸ keeps_finish (keepsIfOk_bitToCy _ _ _ s)

theorem PswBitToCy.keeps {i f b} (h : PswBitToCy i f b) (s : State) : KeepsIfNext s (exec i s) :=
  h.exec_eq s ▸ keeps_finish (keepsIfOk_pswBitToCy _ _ s)

theorem BitStore.keeps {i nv dst b} (h : BitStore i nv dst b) (s : State) : KeepsIfNext s (exec i s) :=
  h.exec_eq s ▸ keeps_finish (keepsIfOk_putBit8 _ _ _ s)

theorem Branch.keeps {i c d} (h : Branch i c d) (s : State) : KeepsIfNext s (exec i s) :=
  h.exec_eq s ▸ keeps_finish (keepsIfOk_branchIf _ _ s)

theorem BitBranch.keeps {i w src b d} (h : BitBranch i w src b d) (s : State) : KeepsIfNext s (exec i s) :=
  h.exec_eq s ▸ keeps_finish (keepsIfOk_branchOnBit _ _ _ _ s)

theorem PswBitBranch.keeps {i w b d} (h : PswBitBranch i w b d) (s : State) : KeepsIfNext s (exec i s) :=
  h.exec_eq s ▸ keeps_finish (keepsIfOk_branchOnPswBit _ _ _ s)

theorem BitClearBranch.keeps {i dst b d} (h : BitClearBranch i dst b d) (s : State) : KeepsIfNext s (exec i s) :=
  h.exec_eq s ▸ keeps_finish (keepsIfOk_branchClear _ _ _ s)

/-! ## Every row that opens no window -/

/-- All instructions but those of 10_state.md R36, BRK, HALT and STOP keep the invariant and the hidden flags. The rows
are grouped by their family; the last groups are the rows of no family and the excluded ones. -/
theorem exec_keeps {i : Instr} (s : State) (hi : ¬ Inhibiting i) (hb : i ≠ .brk) (hh : i ≠ .halt) (hs : i ≠ .stop) :
    KeepsIfNext s (exec i s) := by
  cases i with
  | movRImm | movSaddrImm | movSfrImm | movAbsImm | movEsAbsImm | movAR | movRA | movASaddr | movSaddrA | movASfr
    | movSfrA | movAAbs | movAEsAbs | movAbsA | movEsAbsA | movAPsw | movEsImm | movEsSaddr | movAEs | movEsA |
    movCsImm | movACs | movCsA | movAAtDe | movAEsAtDe | movAtDeA | movEsAtDeA | movDeOffImm | movEsDeOffImm |
    movADeOff | movAEsDeOff | movDeOffA | movEsDeOffA | movAAtHl | movAEsAtHl | movAtHlA | movEsAtHlA |
    movHlOffImm | movEsHlOffImm | movAHlOff | movAEsHlOff | movHlOffA | movEsHlOffA | movAHlB | movAEsHlB |
    movHlBA | movEsHlBA | movAHlC | movAEsHlC | movHlCA | movEsHlCA | movWordBImm | movEsWordBImm | movAWordB |
    movAEsWordB | movWordBA | movEsWordBA | movWordCImm | movEsWordCImm | movAWordC | movAEsWordC | movWordCA |
    movEsWordCA | movWordBcImm | movEsWordBcImm | movAWordBc | movAEsWordBc | movWordBcA | movEsWordBcA |
    movSpOffImm | movASpOff | movSpOffA | movBSaddr | movBAbs | movBEsAbs | movCSaddr | movCAbs | movCEsAbs |
    movXSaddr | movXAbs | movXEsAbs | onebR | onebSaddr | onebAbs | onebEsAbs | clrbR | clrbSaddr | clrbAbs |
    clrbEsAbs => apply Move8.keeps; constructor
  | xchAX | xchAR => apply ExchangeReg.keeps; constructor
  | xchASaddr | xchASfr | xchAAbs | xchAEsAbs | xchAAtDe | xchAEsAtDe | xchADeOff | xchAEsDeOff | xchAAtHl |
    xchAEsAtHl | xchAHlOff | xchAEsHlOff | xchAHlB | xchAEsHlB | xchAHlC | xchAEsHlC =>
    apply ExchangeMem.keeps; constructor
  | movsHlOffX | movsEsHlOffX => apply MoveString.keeps; constructor
  | movwRpImm | movwSaddrpImm | movwSfrpImm | movwAxSaddrp | movwSaddrpAx | movwAxSfrp | movwSfrpAx | movwAxRp |
    movwRpAx | movwAxAbs | movwAxEsAbs | movwAbsAx | movwEsAbsAx | movwAxAtDe | movwAxEsAtDe | movwAtDeAx |
    movwEsAtDeAx | movwAxDeOff | movwAxEsDeOff | movwDeOffAx | movwEsDeOffAx | movwAxAtHl | movwAxEsAtHl |
    movwAtHlAx | movwEsAtHlAx | movwAxHlOff | movwAxEsHlOff | movwHlOffAx | movwEsHlOffAx | movwAxWordB |
    movwAxEsWordB | movwWordBAx | movwEsWordBAx | movwAxWordC | movwAxEsWordC | movwWordCAx | movwEsWordCAx |
    movwAxWordBc | movwAxEsWordBc | movwWordBcAx | movwEsWordBcAx | movwAxSpOff | movwSpOffAx | movwRpSaddrp |
    movwRpAbs | movwRpEsAbs | onewAx | onewBc | clrwAx | clrwBc | movwSpImm | movwSpAx | movwAxSp | movwRpSp =>
    apply Move16.keeps; constructor
  | addAImm | addSaddrImm | addAR | addRA | addASaddr | addAAbs | addAEsAbs | addAAtHl | addAEsAtHl | addAHlOff |
    addAEsHlOff | addAHlB | addAEsHlB | addAHlC | addAEsHlC | addcAImm | addcSaddrImm | addcAR | addcRA |
    addcASaddr | addcAAbs | addcAEsAbs | addcAAtHl | addcAEsAtHl | addcAHlOff | addcAEsHlOff | addcAHlB |
    addcAEsHlB | addcAHlC | addcAEsHlC => apply Add8.keeps; constructor
  | subAImm | subSaddrImm | subAR | subRA | subASaddr | subAAbs | subAEsAbs | subAAtHl | subAEsAtHl | subAHlOff |
    subAEsHlOff | subAHlB | subAEsHlB | subAHlC | subAEsHlC | subcAImm | subcSaddrImm | subcAR | subcRA |
    subcASaddr | subcAAbs | subcAEsAbs | subcAAtHl | subcAEsAtHl | subcAHlOff | subcAEsHlOff | subcAHlB |
    subcAEsHlB | subcAHlC | subcAEsHlC => apply Sub8.keeps; constructor
  | andAImm | andSaddrImm | andAR | andRA | andASaddr | andAAbs | andAEsAbs | andAAtHl | andAEsAtHl | andAHlOff |
    andAEsHlOff | andAHlB | andAEsHlB | andAHlC | andAEsHlC | orAImm | orSaddrImm | orAR | orRA | orASaddr |
    orAAbs | orAEsAbs | orAAtHl | orAEsAtHl | orAHlOff | orAEsHlOff | orAHlB | orAEsHlB | orAHlC | orAEsHlC |
    xorAImm | xorSaddrImm | xorAR | xorRA | xorASaddr | xorAAbs | xorAEsAbs | xorAAtHl | xorAEsAtHl | xorAHlOff |
    xorAEsHlOff | xorAHlB | xorAEsHlB | xorAHlC | xorAEsHlC => apply Logic8.keeps; constructor
  | cmpAImm | cmpSaddrImm | cmpAR | cmpRA | cmpASaddr | cmpAAbs | cmpAEsAbs | cmpAAtHl | cmpAEsAtHl | cmpAHlOff |
    cmpAEsHlOff | cmpAHlB | cmpAEsHlB | cmpAHlC | cmpAEsHlC | cmpAbsImm | cmpEsAbsImm =>
    apply Compare8.keeps; constructor
  | cmp0R | cmp0Saddr | cmp0Abs | cmp0EsAbs => apply CompareZero.keeps; constructor
  | cmpsXHlOff | cmpsXEsHlOff => apply CompareString.keeps; constructor
  | addwAxImm | addwAxRp | addwAxSaddrp | addwAxAbs | addwAxEsAbs | addwAxHlOff | addwAxEsHlOff =>
    apply Add16.keeps; constructor
  | subwAxImm | subwAxRp | subwAxSaddrp | subwAxAbs | subwAxEsAbs | subwAxHlOff | subwAxEsHlOff =>
    apply Sub16.keeps; constructor
  | cmpwAxImm | cmpwAxRp | cmpwAxSaddrp | cmpwAxAbs | cmpwAxEsAbs | cmpwAxHlOff | cmpwAxEsHlOff =>
    apply Compare16.keeps; constructor
  | incR | incSaddr | incAbs | incEsAbs | incHlOff | incEsHlOff => apply Inc8.keeps; constructor
  | decR | decSaddr | decAbs | decEsAbs | decHlOff | decEsHlOff => apply Dec8.keeps; constructor
  | incwRp | incwSaddrp | incwAbs | incwEsAbs | incwHlOff | incwEsHlOff => apply Inc16.keeps; constructor
  | decwRp | decwSaddrp | decwAbs | decwEsAbs | decwHlOff | decwEsHlOff => apply Dec16.keeps; constructor
  | mov1CyABit | mov1CySaddrBit | mov1CySfrBit | mov1CyHlBit | mov1CyEsHlBit | and1CyABit | and1CySaddrBit |
    and1CySfrBit | and1CyHlBit | and1CyEsHlBit | or1CyABit | or1CySaddrBit | or1CySfrBit | or1CyHlBit |
    or1CyEsHlBit | xor1CyABit | xor1CySaddrBit | xor1CySfrBit | xor1CyHlBit | xor1CyEsHlBit =>
    apply BitToCy.keeps; constructor
  | mov1CyPswBit | and1CyPswBit | or1CyPswBit | xor1CyPswBit => apply PswBitToCy.keeps; constructor
  | mov1ABitCy | mov1SaddrBitCy | mov1SfrBitCy | mov1HlBitCy | mov1EsHlBitCy | set1ABit | set1AbsBit |
    set1EsAbsBit | set1SaddrBit | set1SfrBit | set1HlBit | set1EsHlBit | clr1ABit | clr1AbsBit | clr1EsAbsBit |
    clr1SaddrBit | clr1SfrBit | clr1HlBit | clr1EsHlBit => apply BitStore.keeps; constructor
  | bc | bnc | bz | bnz | bh | bnh => apply Branch.keeps; constructor
  | btSaddrBit | btSfrBit | btABit | btHlBit | btEsHlBit | bfSaddrBit | bfSfrBit | bfABit | bfHlBit | bfEsHlBit =>
    apply BitBranch.keeps; constructor
  | btPswBit | bfPswBit => apply PswBitBranch.keeps; constructor
  | btclrSaddrBit | btclrSfrBit | btclrABit | btclrHlBit | btclrEsHlBit => apply BitClearBranch.keeps; constructor
  | shrA | shlA | shlB | shlC | sarA | rorA | rolA | rorcA | rolcA =>
    exact keeps_next ((keeps_setReg s _ _).trans (keeps_setCy _ _))
  | shrwAx | shlwAx | shlwBc | sarwAx | rolwcAx | rolwcBc =>
    exact keeps_next ((keeps_setPair s _ _).trans (keeps_setCy _ _))
  | xchwAxRp => exact keeps_finish (keepsIfOk_exchangePair _ s)
  | muluX => exact keeps_finish (.ok (keeps_setPair s _ _))
  | mulhu | mulh => exact keeps_finish (keepsIfOk_onS3 (keeps_setPairs s _ _ _))
  | divhu =>
    have hz := (keeps_setPair s .de (s.pair .ax)).trans (keeps_setPair _ .ax 0xFFFF)
    have hn := (keeps_setPair s .de (s.pair .ax % s.pair .de)).trans (keeps_setPair _ .ax (s.pair .ax / s.pair .de))
    exact keeps_finish (keepsIfOk_onS3 ((Keeps.ite hz hn).trans (keeps_markDivision _)))
  | divwu =>
    have hz := (keeps_setPairs s .hl .de (s.pairs .bc .ax)).trans (keeps_setPairs _ .bc .ax 0xFFFFFFFF)
    have hn := (keeps_setPairs s .hl .de (s.pairs .bc .ax % s.pairs .hl .de)).trans
      (keeps_setPairs _ .bc .ax (s.pairs .bc .ax / s.pairs .hl .de))
    exact keeps_finish (keepsIfOk_onS3 ((Keeps.ite hz hn).trans (keeps_markDivision _)))
  | machu | mach =>
    exact keeps_finish (keepsIfOk_onS3 (((keeps_withMacr s _).trans (keeps_setAc _ _)).trans (keeps_setCy _ _)))
  | set1Cy | clr1Cy | not1Cy => exact keeps_finish (.ok (keeps_setCy s _))
  | callRp | callAbs16 | callAbs20 | callt => exact keeps_finish (keepsIfOk_call s _)
  | callRel16 => exact keeps_finish (keepsIfOk_callRelative s _)
  | ret => exact keeps_finish (keepsIfOk_returnFromCall s)
  | pushPsw | pushRp => exact keeps_finish (keepsIfOk_push s _ _)
  | popRp => exact keeps_finish (keepsIfOk_popPair s _)
  | addwSpImm | subwSpImm => exact keeps_finish (.ok (keeps_setSp s _))
  | brAx | brAbs16 | brAbs20 => exact keeps_finish (.ok (keeps_jump s _))
  | brRel8 | brRel16 => exact keeps_finish (keepsIfOk_jumpRelative s _)
  | sel n =>
    exact keeps_finish (.ite (fun _ => .error s _) fun hc => .ok (keeps_withPsw s fun c _ => absurd c hc))
  | nop => exact keeps_finish (.ok (.refl s))
  | prefixByte => rintro _ ⟨⟩
  | brk => exact absurd rfl hb
  | halt => exact absurd rfl hh
  | stop => exact absurd rfl hs
  | movPswImm | movPswA | mov1PswBitCy | set1PswBit | clr1PswBit | retb | reti | popPsw | btclrPswBit | ei | di | skc
    | sknc | skz | sknz | skh | sknh => exact absurd (by constructor) hi

/-! ## The instructions that open the window (10_state.md R36) -/

theorem MovePsw.opens {i src} (h : MovePsw i src) (s : State) : OpensIfNext s (exec i s) :=
  h.exec_eq s ▸ opens_finish (opensIfOk_holding (keepsIfOk_move8 _ _ s))

theorem PswBitStore.opens {i nv b} (h : PswBitStore i nv b) (s : State) : OpensIfNext s (exec i s) :=
  h.exec_eq s ▸ opens_finish (opensIfOk_putPswBit b _ s)

/-- The instructions of R36 but the skips. -/
theorem exec_opens {i : Instr} (s : State) (hi : Inhibiting i) (hs : ∀ c, ¬ Skip i c) : OpensIfNext s (exec i s) := by
  cases hi with
  | movPswImm | movPswA => apply MovePsw.opens; constructor
  | mov1PswBitCy | set1PswBit | clr1PswBit | ei | di => apply PswBitStore.opens; constructor
  | retb => exact opens_finish (opensIfOk_returnFromException s)
  | reti => exact opens_finish ((opensIfOk_returnFromException s).map fun t => keeps_log t _)
  | popPsw => exact opens_finish (opensIfOk_holding (keepsIfOk_popPsw s))
  | btclrPswBit bit disp => exact opens_finish (opensIfOk_branchClearPswBit bit disp s)
  | skc | sknc | skz | sknz | skh | sknh => exact absurd (by constructor) (hs _)

/-- A skip instruction does nothing but set the two flags (49_branch_skip_control.md R375). -/
theorem Skip.exec_next {i c} (h : Skip i c) (s : State) :
    exec i s = .next { s with inhibit := true, skip := c s.psw } := by
  rw [h.exec_eq]
  rfl

theorem Skip.inhibiting {i c} (h : Skip i c) : Inhibiting i := by cases h <;> constructor

theorem Skip.unique {i c d} (h : Skip i c) (g : Skip i d) : c = d := by cases h <;> cases g <;> rfl

theorem Inhibiting.not_standby {i} (h : Inhibiting i) : i ≠ .halt ∧ i ≠ .stop := by cases h <;> exact ⟨nofun, nofun⟩

/-! ## Every instruction -/

/-- BRK ends a window and a skip; where none was open or pending, it keeps them. -/
theorem exec_brk_keeps {s : State} (hin : s.inhibit = false) (hsk : s.skip = false) : KeepsIfNext s (exec .brk s) := by
  intro t h
  obtain ⟨hl, hc, hi, hs, hm⟩ := takeException_ok (finish_eq_next_iff.1 h)
  exact ⟨hl, hc, hi.trans hin.symm, hs.trans hsk.symm, hm⟩

/-- What an instruction can do to the hidden flags of a state in which no window is open and no skip pending. -/
inductive HiddenEffect (i : Instr) (s t : State) : Prop where
  /-- nothing -/
  | none (hi : ¬ Inhibiting i) (h : Keeps s t)
  /-- the window is opened (R36) -/
  | window (hi : Inhibiting i) (hs : ∀ c, ¬ Skip i c) (h : Opens s t)
  /-- the window is opened, and the next instruction is skipped if the condition holds (R37) -/
  | skip (c : Psw → Bool) (hs : Skip i c) (h : t = { s with inhibit := true, skip := c s.psw })
  /-- run mode is left (R37) -/
  | standby (m : RunMode) (hi : i = .halt ∨ i = .stop) (h : t = { s with mode := m })

/-- Every instruction has one of these effects, by the lists of 10_state.md R36 and R37. -/
theorem exec_hiddenEffect {i : Instr} {s t : State} (hin : s.inhibit = false) (hsk : s.skip = false)
    (h : exec i s = .next t) : HiddenEffect i s t := by
  by_cases hi : Inhibiting i
  · by_cases hs : ∃ c, Skip i c
    · obtain ⟨c, hc⟩ := hs
      rw [hc.exec_next] at h
      exact .skip c hc (Host.Outcome.next.inj h).symm
    · have hs : ∀ c, ¬ Skip i c := fun c hc => hs ⟨c, hc⟩
      exact .window hi hs (exec_opens s hi hs t h)
  · by_cases hh : i = .halt
    · subst hh
      exact .standby .halt (.inl rfl) (Host.Outcome.next.inj h).symm
    by_cases hs : i = .stop
    · subst hs
      exact .standby .stop (.inr rfl) (Host.Outcome.next.inj h).symm
    by_cases hb : i = .brk
    · subst hb
      exact .none hi (exec_brk_keeps hin hsk t h)
    · exact .none hi (exec_keeps s hi hb hh hs t h)

/-- Running an instruction in run mode keeps the invariant. -/
theorem exec_legal {i : Instr} {s t : State} (l : s.Legal) (hin : s.inhibit = false) (hsk : s.skip = false)
    (hm : s.mode = .run) (h : exec i s = .next t) : t.Legal := by
  cases exec_hiddenEffect hin hsk h with
  | none _ k => exact k.legal l
  | window _ _ k => exact k.legal l hm
  | skip c _ k =>
    subst k
    exact { l with skip := fun _ => rfl, standby := fun hr => absurd hm hr }
  | standby m _ k =>
    subst k
    exact { l with standby := fun _ => ⟨hin, hsk⟩ }

end Sys2Proof.Forms
end

section
/-!
SUPPORT. The step, said once: an equation for each of its branches, what a step that goes on has done, and that each
branch keeps the invariant. And the areas that stack bytes lie in.
-/

namespace Sys2Proof.Machine

open Sys2Proof.Forms

/-! ## The branches of a step -/

theorem staysInStandby_eq_false_iff (s : State) (e : EnvInput) :
    staysInStandby s e = false ↔ s.mode = .run ∨ e.release = true := by
  cases hm : s.mode <;> simp [staysInStandby, hm]

/-- The state at an instruction boundary of a step: ticked, in run mode. -/
def atBoundary (s : State) : State := { tick s with mode := .run }

theorem step_of_reset {s : State} (h : (currentInput s).reset = true) : step s = .next (resetSignal (tick s)) := by
  simp [step, h]

theorem step_of_standby {s : State} (h : (currentInput s).reset = false)
    (hs : staysInStandby s (currentInput s) = true) : step s = .next (tick s) := by
  have hs : staysInStandby (tick s) (currentInput s) = true := hs
  simp [step, h, hs]

theorem step_of_boundary {s : State} (h : (currentInput s).reset = false)
    (hs : staysInStandby s (currentInput s) = false) : step s = boundary (atBoundary s) (currentInput s).request := by
  have hs : staysInStandby (tick s) (currentInput s) = false := hs
  simp [step, h, hs, atBoundary]

/-- A boundary's start does not bear on what is pending. -/
theorem pendingRequest_atBoundary (s : State) (q : Option IrqRequest) :
    pendingRequest (atBoundary s) q = pendingRequest s q := rfl

theorem boundary_of_none {s : State} {q : Option IrqRequest} (h : pendingRequest s q = none) :
    boundary s q = runInstruction s := by simp [boundary, h]

theorem boundary_of_some {s : State} {q : Option IrqRequest} {r : IrqRequest} (h : pendingRequest s q = some r) :
    boundary s q = finish (acceptInterrupt s r) := by simp [boundary, h]

theorem runInstruction_of_decode {s : State} {i : Instr} {n : Nat}
    (h : decode s.cfg.core (fetchBytes s 5 s.pc) = .ok (i, n)) :
    runInstruction s = if s.skip then skipped i (startInstruction s n) else exec i (startInstruction s n) := by
  simp [runInstruction, h]

/-- An instruction, run or skipped, that goes on was decoded. -/
theorem runInstruction_next {s t : State} (h : runInstruction s = .next t) :
    ∃ i n, decode s.cfg.core (fetchBytes s 5 s.pc) = .ok (i, n)
      ∧ ((s.skip = true ∧ t = startInstruction s n) ∨ (s.skip = false ∧ exec i (startInstruction s n) = .next t)) := by
  cases hd : decode s.cfg.core (fetchBytes s 5 s.pc) with
  | error e =>
    rw [runInstruction, hd] at h
    cases finish_eq_next_iff.1 h
  | ok p =>
    obtain ⟨i, n⟩ := p
    rw [runInstruction_of_decode hd] at h
    refine ⟨i, n, rfl, ?_⟩
    cases hs : s.skip with
    | false => exact .inr ⟨rfl, by simpa [hs] using h⟩
    | true =>
      rw [hs, if_pos rfl] at h
      unfold skipped at h
      split at h
      · cases h
      · exact .inl ⟨rfl, (Host.Outcome.next.inj h).symm⟩

/-- What a step that goes on has done: taken the reset signal, stayed in standby, accepted a request, or run or skipped
an instruction. -/
theorem step_cases {s t : State} (h : step s = .next t) :
    ((currentInput s).reset = true ∧ t = resetSignal (tick s))
      ∨ ((currentInput s).reset = false ∧ staysInStandby s (currentInput s) = true ∧ t = tick s)
      ∨ ((currentInput s).reset = false ∧ staysInStandby s (currentInput s) = false
        ∧ ((∃ q, pendingRequest s (currentInput s).request = some q ∧ acceptInterrupt (atBoundary s) q = .ok t)
          ∨ (pendingRequest s (currentInput s).request = none ∧ runInstruction (atBoundary s) = .next t))) := by
  cases hr : (currentInput s).reset with
  | true => exact .inl ⟨rfl, (Host.Outcome.next.inj (step_of_reset hr ▸ h)).symm⟩
  | false =>
    cases hs : staysInStandby s (currentInput s) with
    | true => exact .inr (.inl ⟨rfl, rfl, (Host.Outcome.next.inj (step_of_standby hr hs ▸ h)).symm⟩)
    | false =>
      rw [step_of_boundary hr hs] at h
      refine .inr (.inr ⟨rfl, rfl, ?_⟩)
      rw [← pendingRequest_atBoundary]
      cases hq : pendingRequest (atBoundary s) (currentInput s).request with
      | none => exact .inr ⟨rfl, boundary_of_none hq ▸ h⟩
      | some q => exact .inl ⟨q, rfl, finish_eq_next_iff.1 (boundary_of_some hq ▸ h)⟩

/-! ## Each branch keeps the invariant -/

theorem State.Legal.tick {s : State} (h : s.Legal) : (tick s).Legal :=
  { h with queue := nextFetchView_wf h.queue }

theorem State.Legal.atBoundary {s : State} (h : s.Legal) : (atBoundary s).Legal :=
  { h.tick with standby := fun hr => absurd rfl hr }

theorem State.Legal.startInstruction {s : State} (h : s.Legal) (n : Nat) : (startInstruction s n).Legal :=
  { h with skip := fun e => absurd e Bool.false_ne_true, standby := fun _ => ⟨rfl, rfl⟩ }

/-- The reset signal ends in a legal state: R440's values are, and RAM and SP take only values a core can hold. -/
theorem State.Legal.resetSignal {s : State} (h : s.Legal) : (resetSignal s).Legal where
  cfg := h.cfg
  mem := resetMemory_wf _ _ h.mem
  queue := resetMemory_wf _ _ h.mem
  sp := even_of_masked _
  es := (by decide : (0x0F : Byte) &&& 0xF0 = 0)
  cs := (by decide : (0x00 : Byte) &&& 0xF0 = 0)
  pmc := (by decide : (0x00 : Byte) &&& 0xFE = 0)
  psw _ := ⟨rfl, rfl⟩
  maa _ := rfl
  skip e := absurd e Bool.false_ne_true
  standby _ := ⟨rfl, rfl⟩

/-- Running or skipping the instruction at PC, at a boundary, keeps the invariant. -/
theorem runInstruction_legal {s t : State} (l : s.Legal) (hm : s.mode = .run) (h : runInstruction s = .next t) :
    t.Legal := by
  obtain ⟨i, n, -, ⟨-, rfl⟩ | ⟨-, he⟩⟩ := runInstruction_next h
  · exact l.startInstruction n
  · exact exec_legal (l.startInstruction n) rfl rfl hm he

/-! ## The areas of stack space (10_state.md R16, R29) -/

theorem Config.ramBase_le {c : Config} (h : c.wf = true) : c.ramBase ≤ 0xFFEE0 := by
  simp only [Config.wf, Bool.and_eq_true, decide_eq_true_eq] at h
  tauto

theorem stackPlace_eq_ram {c : Config} {off : Word} (h : c.ramBase ≤ 0xF0000 + off.toNat) (ho : off.toNat < 0xFEE0) :
    stackPlace c off = .ram (0xF0000 + off.toNat) := by
  have hr : inRam c (0xF0000 + off.toNat) = true := by simp [inRam]; omega
  have hl : 0xF0000 + off.toNat < 0xFFEE0 := by omega
  simp only [stackPlace, hr, hl, if_true]

theorem stackPlace_eq_registers {c : Config} {off : Word} (hc : c.wf = true)
    (h : (if c.core = .s1 then 0xFEF8 else 0xFEE0) ≤ off.toNat) (ho : off.toNat ≤ 0xFEFF) :
    stackPlace c off = .registers := by
  have hb := Config.ramBase_le hc
  have hle : 0xFEE0 ≤ off.toNat := by split at h <;> omega
  have hr : inRam c (0xF0000 + off.toNat) = true := by simp [inRam]; omega
  have hl : ¬ 0xF0000 + off.toNat < 0xFFEE0 := by omega
  have hs : ¬(c.core = .s1 ∧ 0xF0000 + off.toNat < 0xFFEF8) := by
    rintro ⟨e, hlt⟩
    rw [if_pos e] at h
    omega
  simp only [stackPlace, hr, hl, hs, if_true, if_false]

theorem stackPlace_eq_outside {c : Config} {off : Word} (hc : c.wf = true)
    (h : 0xF0000 + off.toNat < c.ramBase ∨ 0xFEFF < off.toNat
      ∨ (c.core = .s1 ∧ 0xFEE0 ≤ off.toNat ∧ off.toNat < 0xFEF8)) :
    stackPlace c off = .outside (0xF0000 + off.toNat) := by
  have hb := Config.ramBase_le hc
  by_cases hr : inRam c (0xF0000 + off.toNat) = true
  · have hr' := hr
    simp only [inRam, Bool.and_eq_true, decide_eq_true_eq] at hr'
    obtain ⟨hcore, hlo, hhi⟩ := (h.resolve_left (by omega)).resolve_left (by omega)
    have hl : ¬ 0xF0000 + off.toNat < 0xFFEE0 := by omega
    have hs : 0xF0000 + off.toNat < 0xFFEF8 := by omega
    simp only [stackPlace, hr, hl, hcore, hs, and_self, if_true, if_false]
  · simp only [stackPlace, hr, if_false, Bool.false_eq_true]

end Sys2Proof.Machine
end

section
/-!
PROOFS. The statements of the family 10_state.md: the invariant, the hidden flags, stack bytes, the step of an
instruction, the state after reset.
-/

namespace Sys2Proof.Machine

open Sys2Proof.Forms

/-- Settles O15: each of the four things a step can be keeps the invariant. -/
theorem everyStepKeepsStatesLegal : Obligations.EveryStepKeepsStatesLegal := by
  intro s t l h
  obtain ⟨-, rfl⟩ | ⟨-, -, rfl⟩ | ⟨-, -, ⟨q, -, hq⟩ | ⟨-, hx⟩⟩ := step_cases h
  · exact l.tick.resetSignal
  · exact l.tick
  · exact acceptInterrupt_legal l.atBoundary hq
  · exact runInstruction_legal l.atBoundary rfl hx

/-- Settles O17, by the effect each instruction has. -/
theorem onlyListedInstructionsSetHiddenFlags : Obligations.OnlyListedInstructionsSetHiddenFlags := by
  intro s t i hin hsk h
  cases exec_hiddenEffect hin hsk h with
  | none hi k =>
    refine ⟨?_, ?_, .inl k.mode⟩
    · simp [k.inhibit, hin, hi]
    · have hs : ∀ c, ¬ Skip i c := fun c hc => hi hc.inhibiting
      simp [k.skip, hsk, hs]
  | window hi hs k =>
    refine ⟨?_, ?_, .inl k.mode⟩
    · simp [k.inhibit, hi]
    · simp [k.skip, hsk, hs]
  | skip c hc k =>
    subst k
    refine ⟨by simp [hc.inhibiting], ⟨fun e => ⟨c, hc, e⟩, ?_⟩, .inl rfl⟩
    rintro ⟨d, hd, e⟩
    rwa [hd.unique hc] at e
  | standby m hi k =>
    subst k
    have hn : ¬ Inhibiting i := fun g => hi.elim g.not_standby.1 g.not_standby.2
    have hs : ∀ c, ¬ Skip i c := fun c hc => hn hc.inhibiting
    exact ⟨by simp [hin, hn], by simp [hsk, hs], .inr hi⟩

/-- Settles O23: the place of the byte decides what the access does. -/
theorem stackBytesLieInRam : Obligations.StackBytesLieInRam := by
  intro s off v l
  refine ⟨fun hr ho => ?_, fun hr ho => ?_, fun ho => ?_⟩
  · have hp := stackPlace_eq_ram hr ho
    exact ⟨by simp [stackRead, hp], _, by simp [stackWrite, hp]; rfl, rfl⟩
  · have hp := stackPlace_eq_registers l.cfg hr ho
    exact ⟨by simp [stackRead, hp], by simp [stackWrite, hp]⟩
  · have hp := stackPlace_eq_outside l.cfg ho
    exact ⟨by simp [stackWrite, hp], _, by simp [stackRead, hp]; rfl⟩

/-- Settles O6: the step reaches its boundary, nothing comes before the instruction, and nothing is skipped. -/
theorem stepRunsTheDecodedInstruction : Obligations.StepRunsTheDecodedInstruction := by
  intro s i n hr hm hq hs hd
  have hb := step_of_boundary hr ((staysInStandby_eq_false_iff s _).2 hm)
  have hi : runInstruction (atBoundary s) = if s.skip then skipped i (startInstruction (atBoundary s) n)
      else exec i (startInstruction (atBoundary s) n) := runInstruction_of_decode hd
  rw [hb, boundary_of_none ((pendingRequest_atBoundary s _).trans hq), hi, hs]
  rfl

/-- Settles O13, by the reset state's fields. -/
theorem resetStateHasTheSpecsValues : Obligations.ResetStateHasTheSpecsValues :=
  ⟨by decide, by decide, rfl, rfl, rfl, rfl, rfl, rfl⟩

/-- Settles O14: the memory lists nothing, and each register's fixed value has its unimplemented bits 0. -/
theorem resetStateIsLegal : Obligations.ResetStateIsLegal where
  cfg := by decide
  mem := State.reset_mem_wf
  queue := State.reset_mem_wf
  sp := by decide
  es := rfl
  cs := rfl
  pmc := rfl
  psw _ := ⟨rfl, rfl⟩
  maa _ := rfl
  skip e := absurd e Bool.false_ne_true
  standby _ := ⟨rfl, rfl⟩

end Sys2Proof.Machine
end

section
/-!
SUPPORT. What an instruction can do to memory, said once for every row: all it does is to store bytes in internal RAM
(20_memory.md R70; D28). So a property of the parameters and of memory that such stores keep is kept by every
instruction and by taking an exception.
-/

namespace Sys2Proof.Machine

open Sys2Proof.Forms

/-! ## What an operation ends in -/

/-- Where the operation answers a state, `P` holds of it. -/
def EndsIn (P : State → Prop) (r : Result) : Prop := ∀ t, r = .ok t → P t

/-- Where the outcome is a next state, `P` holds of it. -/
def NextIn (P : State → Prop) (o : Host.Outcome State Fault Refusal) : Prop := ∀ t, o = .next t → P t

section

variable {P : State → Prop}

theorem EndsIn.ok {t : State} (h : P t) : EndsIn P (.ok t) := fun _ e => Except.ok.inj e ▸ h

theorem EndsIn.error (e : Stop) : EndsIn P (.error e) := by
  rintro _ ⟨⟩

/-- An operation that first reads a value. -/
theorem EndsIn.reading {α : Type} {x : Except Stop α} {f : α → Result} (h : ∀ a, EndsIn P (f a)) :
    EndsIn P (x >>= f) := by
  intro t e
  cases x with
  | error _ => cases e
  | ok a => exact h a t e

/-- Two operations in a row. -/
theorem EndsIn.bind {r : Result} {f : State → Result} (h : EndsIn P r) (g : ∀ t, P t → EndsIn P (f t)) :
    EndsIn P (r >>= f) := by
  intro u e
  cases r with
  | error _ => cases e
  | ok t => exact g t (h t rfl) u e

theorem EndsIn.map {r : Result} {f : State → State} (h : EndsIn P r) (g : ∀ t, P t → P (f t)) :
    EndsIn P (r.map f) := by
  intro u e
  cases r with
  | error _ => cases e
  | ok t => exact Except.ok.inj e ▸ g t (h t rfl)

theorem EndsIn.ite {c : Prop} [Decidable c] {q r : Result} (h : EndsIn P q) (g : EndsIn P r) :
    EndsIn P (if c then q else r) := by
  split
  · exact h
  · exact g

theorem EndsIn.finish {r : Result} (h : EndsIn P r) : NextIn P (Machine.finish r) :=
  fun t e => h t (finish_eq_next_iff.1 e)

theorem NextIn.of_eq {i : Instr} {s : State} {r : Result} (he : exec i s = Machine.finish r) (h : EndsIn P r) :
    NextIn P (exec i s) := he ▸ h.finish

theorem NextIn.next {t : State} (h : P t) : NextIn P (.next t) := fun _ e => Host.Outcome.next.inj e ▸ h

end

/-! ## Properties that stores to internal RAM keep -/

/-- A property of the parameters and of memory that a store to internal RAM keeps. -/
structure RamInvariant (P : State → Prop) : Prop where
  same : ∀ {s t : State}, P s → t.cfg = s.cfg → t.mem = s.mem → P t
  store : ∀ {s : State} {a : Nat} (v : Byte), inRam s.cfg a = true → P s → P { s with mem := s.mem.write a v }

theorem place_ram_inRam {s : State} {a : Addr} {n : Nat} (h : place s a = .ram n) : inRam s.cfg n = true := by
  obtain ⟨hn, hr⟩ := place_ram h
  simp [inRam]
  omega

theorem stackPlace_ram_inRam {c : Config} {off : Word} {n : Nat} (h : stackPlace c off = .ram n) :
    inRam c n = true := by
  unfold stackPlace at h
  dsimp only at h
  split_ifs at h with hr
  cases h
  exact hr

@[simp] theorem Loc8.touched_cfg (s : State) (l : Loc8) : (l.touched s).cfg = s.cfg := by rw [l.touched_eq]; rfl
@[simp] theorem Loc8.touched_mem (s : State) (l : Loc8) : (l.touched s).mem = s.mem := by rw [l.touched_eq]; rfl
@[simp] theorem Src8.touched_cfg (s : State) (l : Src8) : (l.touched s).cfg = s.cfg := by rw [l.touched_eq]; rfl
@[simp] theorem Src8.touched_mem (s : State) (l : Src8) : (l.touched s).mem = s.mem := by rw [l.touched_eq]; rfl
@[simp] theorem Loc16.touched_cfg (s : State) (l : Loc16) : (l.touched s).cfg = s.cfg := by rw [l.touched_eq]; rfl
@[simp] theorem Loc16.touched_mem (s : State) (l : Loc16) : (l.touched s).mem = s.mem := by rw [l.touched_eq]; rfl
@[simp] theorem Src16.touched_cfg (s : State) (l : Src16) : (l.touched s).cfg = s.cfg := by rw [l.touched_eq]; rfl
@[simp] theorem Src16.touched_mem (s : State) (l : Src16) : (l.touched s).mem = s.mem := by rw [l.touched_eq]; rfl

@[simp] theorem touchedByte_cfg (s : State) (ea : Ea) : (touchedByte s ea).cfg = s.cfg := by
  cases ea with
  | data a => rw [touchedByte, touchByte_eq]; rfl
  | stack off => rfl

@[simp] theorem touchedByte_mem (s : State) (ea : Ea) : (touchedByte s ea).mem = s.mem := by
  cases ea with
  | data a => rw [touchedByte, touchByte_eq]; rfl
  | stack off => rfl

section

variable {P : State → Prop} {s : State} (hP : RamInvariant P) (h : P s)
include hP h

/-! ## The operations that store -/

theorem writeCpu_endsIn (r : CpuSfr) (v : Byte) : EndsIn P (s.writeCpu r v) := by
  cases r with
  | pmc => exact .ite (.error _) (.ok (hP.same h rfl rfl))
  | spl | sph | psw | cs | es | macr => exact .ok (hP.same h rfl rfl)

/-- The data path stores to memory in internal RAM alone. -/
theorem writeByte_endsIn (a : Addr) (v : Byte) : EndsIn P (writeByte s a v) := by
  unfold writeByte
  cases hp : place s a with
  | device n => exact .ok (hP.same h rfl rfl)
  | cpu r => exact writeCpu_endsIn hP h r v
  | gpr n r => exact .ok (hP.same h (by simp) (by simp))
  | ram n => exact .ok (hP.store v (place_ram_inRam hp) h)
  | dataFlash | mirror | codeFlash | unusable => exact .error _

theorem writeWord_endsIn (a : Addr) (v : Word) : EndsIn P (writeWord s a v) := by
  unfold writeWord
  cases deviceWord s a with
  | some n => exact .ok (hP.same h rfl rfl)
  | none => exact .bind (writeByte_endsIn hP h _ _) fun _ ht => writeByte_endsIn hP ht _ _

/-- The stack stores to memory in internal RAM alone. -/
theorem stackWrite_endsIn (off : Word) (v : Byte) : EndsIn P (stackWrite s off v) := by
  unfold stackWrite
  cases hp : stackPlace s.cfg off with
  | ram a => exact .ok (hP.store v (stackPlace_ram_inRam hp) h)
  | registers => exact .error _
  | outside a => exact .ok h

theorem stackWriteWord_endsIn (off : Word) (hi lo : Byte) : EndsIn P (stackWriteWord s off hi lo) :=
  .bind (stackWrite_endsIn hP h _ _) fun _ ht => stackWrite_endsIn hP ht _ _

theorem push_endsIn (hi lo : Byte) : EndsIn P (push s hi lo) :=
  .bind (stackWriteWord_endsIn hP h _ _ _) fun _ ht => .ok (hP.same ht rfl rfl)

theorem pushFrame_endsIn (top : Byte) (ret : Addr) : EndsIn P (pushFrame s top ret) :=
  .bind (stackWriteWord_endsIn hP h _ _ _) fun _ ht => .bind (stackWriteWord_endsIn hP ht _ _ _) fun _ hu =>
    .ok (hP.same hu rfl rfl)

theorem storeByte_endsIn (v : Byte) (ea : Ea) : EndsIn P (storeByte s v ea) := by
  cases ea with
  | data a => exact writeByte_endsIn hP h a v
  | stack off => exact stackWrite_endsIn hP h off v

theorem storeWord_endsIn (v : Word) (ea : Ea) : EndsIn P (storeWord s v ea) := by
  cases ea with
  | data a => exact writeWord_endsIn hP h a v
  | stack off => exact stackWriteWord_endsIn hP h _ _ _

theorem Loc8.write_endsIn (v : Byte) (l : Loc8) : EndsIn P (l.write s v) := by
  cases l with
  | reg r => exact .ok (hP.same h (by simp) (by simp))
  | mem m => exact .reading (storeByte_endsIn hP h v)

theorem Loc16.write_endsIn (v : Word) (l : Loc16) : EndsIn P (l.write s v) := by
  cases l with
  | pair p => exact .ok (hP.same h (by simp) (by simp))
  | mem m => exact .reading (storeWord_endsIn hP h v)

/-! ## What the instruction families share -/

theorem jumpRelative_endsIn (disp : Addr) : EndsIn P (jumpRelative s disp) := .ite (.error _) (.ok (hP.same h rfl rfl))

theorem call_endsIn (target : Addr) : EndsIn P (call s target) :=
  .bind (pushFrame_endsIn hP h _ _) fun _ ht => .ok (hP.same ht rfl rfl)

theorem returnFromCall_endsIn : EndsIn P (returnFromCall s) := .reading fun _ => .ok (hP.same h rfl rfl)

theorem popPsw_endsIn : EndsIn P (popPsw s) := .reading fun _ => .ok (hP.same h rfl rfl)

theorem returnFromException_endsIn : EndsIn P (returnFromException s) :=
  .reading fun _ => .reading fun _ => .ok (hP.same h rfl rfl)

/-- Taking an exception stores its frame alone (60_exceptions.md R406). -/
theorem takeException_endsIn (vector : Nat) (isp : Option (BitVec 2)) : EndsIn P (takeException s vector isp) :=
  .bind (pushFrame_endsIn hP h _ _) fun _ ht => .ok (hP.same ht rfl rfl)

theorem acceptInterrupt_endsIn (q : IrqRequest) : EndsIn P (acceptInterrupt s q) :=
  .ite (.map (takeException_endsIn hP (hP.same h (by simp) (by simp)) _ _) fun _ ht => hP.same ht rfl rfl) (.error _)

theorem move8_endsIn (dst : Loc8) (src : Src8) : EndsIn P (move8 dst src s) :=
  .reading fun v => dst.write_endsIn hP (hP.same h (by simp) (by simp)) v

theorem move16_endsIn (dst : Loc16) (src : Src16) : EndsIn P (move16 dst src s) :=
  .reading fun v => dst.write_endsIn hP (hP.same h (by simp) (by simp)) v

theorem exchangeMem_endsIn (m : MemOp) : EndsIn P (exchangeMem m s) :=
  .reading fun ea => .reading fun _ => storeByte_endsIn hP (hP.same h (by simp) (by simp)) _ ea

theorem moveString_endsIn (m : MemOp) : EndsIn P (moveString m s) :=
  .bind (Loc8.write_endsIn hP h _ _) fun _ ht => .ok (hP.same ht rfl rfl)

theorem arith8_endsIn (f : Byte → Byte → Alu8) (dst : Loc8) (src : Src8) : EndsIn P (arith8 f dst src s) :=
  .reading fun _ => .reading fun _ =>
    .bind (dst.write_endsIn hP (hP.same h (by simp) (by simp)) _) fun _ ht => .ok (hP.same ht rfl rfl)

theorem logic8_endsIn (f : Byte → Byte → Byte) (dst : Loc8) (src : Src8) : EndsIn P (logic8 f dst src s) :=
  .reading fun _ => .reading fun _ =>
    .bind (dst.write_endsIn hP (hP.same h (by simp) (by simp)) _) fun _ ht => .ok (hP.same ht rfl rfl)

theorem compare8_endsIn (dst : Loc8) (src : Src8) : EndsIn P (compare8 dst src s) :=
  .reading fun _ => .reading fun _ => .ok (hP.same h (by simp) (by simp))

theorem compareZero_endsIn (dst : Loc8) : EndsIn P (compareZero dst s) :=
  .reading fun _ => .ok (hP.same h (by simp) (by simp))

theorem compareString_endsIn (m : MemOp) : EndsIn P (compareString m s) :=
  .reading fun _ => .ok (hP.same h (by simp) (by simp))

theorem step8_endsIn (f : Byte → Step8) (dst : Loc8) : EndsIn P (step8 f dst s) :=
  .reading fun _ =>
    .bind (dst.write_endsIn hP (hP.same h (by simp) (by simp)) _) fun _ ht => .ok (hP.same ht rfl rfl)

theorem arith16_endsIn (f : Word → Word → Alu16) (src : Src16) : EndsIn P (arith16 f src s) :=
  .reading fun _ => .ok (hP.same h (by simp [State.setFlags16]) (by simp [State.setFlags16]))

theorem compare16_endsIn (src : Src16) : EndsIn P (compare16 src s) :=
  .reading fun _ => .ok (hP.same h (by simp [State.setFlags16]) (by simp [State.setFlags16]))

theorem step16_endsIn (f : Word → Word) (dst : Loc16) : EndsIn P (step16 f dst s) :=
  .reading fun _ => dst.write_endsIn hP (hP.same h (by simp) (by simp)) _

theorem bitToCy_endsIn (f : Bool → Bool → Bool) (src : Loc8) (bit : Fin 8) : EndsIn P (bitToCy f src bit s) :=
  .reading fun _ => .ok (hP.same h (by simp) (by simp))

theorem putBit8_endsIn (dst : Loc8) (bit : Fin 8) (v : Bool) : EndsIn P (putBit8 dst bit v s) :=
  .reading fun _ => dst.write_endsIn hP (hP.same h (by simp) (by simp)) _

theorem branchIf_endsIn (cond : Bool) (disp : Byte) : EndsIn P (branchIf cond disp s) :=
  .ite (jumpRelative_endsIn hP h _) (.ok h)

theorem branchOnBit_endsIn (want : Bool) (src : Loc8) (bit : Fin 8) (disp : Byte) :
    EndsIn P (branchOnBit want src bit disp s) :=
  .reading fun _ => branchIf_endsIn hP (hP.same h (by simp) (by simp)) _ _

theorem branchClear_endsIn (dst : Loc8) (bit : Fin 8) (disp : Byte) : EndsIn P (branchClear dst bit disp s) :=
  have ht : P (dst.touched s) := hP.same h (by simp) (by simp)
  .reading fun _ => .ite (.bind (dst.write_endsIn hP ht _) fun _ hu => jumpRelative_endsIn hP hu _) (.ok ht)

theorem branchClearPswBit_endsIn (bit : Fin 8) (disp : Byte) : EndsIn P (branchClearPswBit bit disp s) :=
  .ite (jumpRelative_endsIn hP (s := holdInterrupts (s.writePswBit bit false)) (hP.same h rfl rfl) _)
    (.ok (hP.same h rfl rfl))

theorem onS3_endsIn {r : State} (hc : r.cfg = s.cfg) (hm : r.mem = s.mem) : EndsIn P (onS3 s r) :=
  .ite (.ok (hP.same h hc hm)) (.error _)

omit h in
theorem holding_endsIn {r : Result} (hr : EndsIn P r) : EndsIn P (holding r) := .map hr fun _ ht => hP.same ht rfl rfl

/-! ## Every instruction -/

/-- Every instruction keeps what stores to internal RAM keep. The rows are grouped by the meaning they share; the last
groups are the rows that touch no memory. -/
theorem exec_nextIn (i : Instr) : NextIn P (exec i s) := by
  cases i with
  | movRImm | movSaddrImm | movSfrImm | movAbsImm | movEsAbsImm | movAR | movRA | movASaddr | movSaddrA | movASfr
    | movSfrA | movAAbs | movAEsAbs | movAbsA | movEsAbsA | movAPsw | movEsImm | movEsSaddr | movAEs | movEsA |
    movCsImm | movACs | movCsA | movAAtDe | movAEsAtDe | movAtDeA | movEsAtDeA | movDeOffImm | movEsDeOffImm |
    movADeOff | movAEsDeOff | movDeOffA | movEsDeOffA | movAAtHl | movAEsAtHl | movAtHlA | movEsAtHlA |
    movHlOffImm | movEsHlOffImm | movAHlOff | movAEsHlOff | movHlOffA | movEsHlOffA | movAHlB | movAEsHlB |
    movHlBA | movEsHlBA | movAHlC | movAEsHlC | movHlCA | movEsHlCA | movWordBImm | movEsWordBImm | movAWordB |
    movAEsWordB | movWordBA | movEsWordBA | movWordCImm | movEsWordCImm | movAWordC | movAEsWordC | movWordCA |
    movEsWordCA | movWordBcImm | movEsWordBcImm | movAWordBc | movAEsWordBc | movWordBcA | movEsWordBcA |
    movSpOffImm | movASpOff | movSpOffA | movBSaddr | movBAbs | movBEsAbs | movCSaddr | movCAbs | movCEsAbs |
    movXSaddr | movXAbs | movXEsAbs | onebR | onebSaddr | onebAbs | onebEsAbs | clrbR | clrbSaddr | clrbAbs |
    clrbEsAbs => exact .of_eq (Move8.exec_eq (by constructor) s) (move8_endsIn hP h _ _)
  | movPswImm | movPswA => exact .of_eq (MovePsw.exec_eq (by constructor) s) (holding_endsIn hP (move8_endsIn hP h _ _))
  | xchASaddr | xchASfr | xchAAbs | xchAEsAbs | xchAAtDe | xchAEsAtDe | xchADeOff | xchAEsDeOff | xchAAtHl |
    xchAEsAtHl | xchAHlOff | xchAEsHlOff | xchAHlB | xchAEsHlB | xchAHlC | xchAEsHlC =>
    exact .of_eq (ExchangeMem.exec_eq (by constructor) s) (exchangeMem_endsIn hP h _)
  | movsHlOffX | movsEsHlOffX => exact .of_eq (MoveString.exec_eq (by constructor) s) (moveString_endsIn hP h _)
  | movwRpImm | movwSaddrpImm | movwSfrpImm | movwAxSaddrp | movwSaddrpAx | movwAxSfrp | movwSfrpAx | movwAxRp |
    movwRpAx | movwAxAbs | movwAxEsAbs | movwAbsAx | movwEsAbsAx | movwAxAtDe | movwAxEsAtDe | movwAtDeAx |
    movwEsAtDeAx | movwAxDeOff | movwAxEsDeOff | movwDeOffAx | movwEsDeOffAx | movwAxAtHl | movwAxEsAtHl |
    movwAtHlAx | movwEsAtHlAx | movwAxHlOff | movwAxEsHlOff | movwHlOffAx | movwEsHlOffAx | movwAxWordB |
    movwAxEsWordB | movwWordBAx | movwEsWordBAx | movwAxWordC | movwAxEsWordC | movwWordCAx | movwEsWordCAx |
    movwAxWordBc | movwAxEsWordBc | movwWordBcAx | movwEsWordBcAx | movwAxSpOff | movwSpOffAx | movwRpSaddrp |
    movwRpAbs | movwRpEsAbs | onewAx | onewBc | clrwAx | clrwBc | movwSpImm | movwSpAx | movwAxSp | movwRpSp =>
    exact .of_eq (Move16.exec_eq (by constructor) s) (move16_endsIn hP h _ _)
  | addAImm | addSaddrImm | addAR | addRA | addASaddr | addAAbs | addAEsAbs | addAAtHl | addAEsAtHl | addAHlOff |
    addAEsHlOff | addAHlB | addAEsHlB | addAHlC | addAEsHlC | addcAImm | addcSaddrImm | addcAR | addcRA |
    addcASaddr | addcAAbs | addcAEsAbs | addcAAtHl | addcAEsAtHl | addcAHlOff | addcAEsHlOff | addcAHlB |
    addcAEsHlB | addcAHlC | addcAEsHlC => exact .of_eq (Add8.exec_eq (by constructor) s) (arith8_endsIn hP h _ _ _)
  | subAImm | subSaddrImm | subAR | subRA | subASaddr | subAAbs | subAEsAbs | subAAtHl | subAEsAtHl | subAHlOff |
    subAEsHlOff | subAHlB | subAEsHlB | subAHlC | subAEsHlC | subcAImm | subcSaddrImm | subcAR | subcRA |
    subcASaddr | subcAAbs | subcAEsAbs | subcAAtHl | subcAEsAtHl | subcAHlOff | subcAEsHlOff | subcAHlB |
    subcAEsHlB | subcAHlC | subcAEsHlC =>
    exact .of_eq (Sub8.exec_eq (by constructor) s) (arith8_endsIn hP h _ _ _)
  | andAImm | andSaddrImm | andAR | andRA | andASaddr | andAAbs | andAEsAbs | andAAtHl | andAEsAtHl | andAHlOff |
    andAEsHlOff | andAHlB | andAEsHlB | andAHlC | andAEsHlC | orAImm | orSaddrImm | orAR | orRA | orASaddr |
    orAAbs | orAEsAbs | orAAtHl | orAEsAtHl | orAHlOff | orAEsHlOff | orAHlB | orAEsHlB | orAHlC | orAEsHlC |
    xorAImm | xorSaddrImm | xorAR | xorRA | xorASaddr | xorAAbs | xorAEsAbs | xorAAtHl | xorAEsAtHl | xorAHlOff |
    xorAEsHlOff | xorAHlB | xorAEsHlB | xorAHlC | xorAEsHlC =>
    exact .of_eq (Logic8.exec_eq (by constructor) s) (logic8_endsIn hP h _ _ _)
  | cmpAImm | cmpSaddrImm | cmpAR | cmpRA | cmpASaddr | cmpAAbs | cmpAEsAbs | cmpAAtHl | cmpAEsAtHl | cmpAHlOff |
    cmpAEsHlOff | cmpAHlB | cmpAEsHlB | cmpAHlC | cmpAEsHlC | cmpAbsImm | cmpEsAbsImm =>
    exact .of_eq (Compare8.exec_eq (by constructor) s) (compare8_endsIn hP h _ _)
  | cmp0R | cmp0Saddr | cmp0Abs | cmp0EsAbs =>
    exact .of_eq (CompareZero.exec_eq (by constructor) s) (compareZero_endsIn hP h _)
  | cmpsXHlOff | cmpsXEsHlOff => exact .of_eq (CompareString.exec_eq (by constructor) s) (compareString_endsIn hP h _)
  | addwAxImm | addwAxRp | addwAxSaddrp | addwAxAbs | addwAxEsAbs | addwAxHlOff | addwAxEsHlOff =>
    exact .of_eq (Add16.exec_eq (by constructor) s) (arith16_endsIn hP h _ _)
  | subwAxImm | subwAxRp | subwAxSaddrp | subwAxAbs | subwAxEsAbs | subwAxHlOff | subwAxEsHlOff =>
    exact .of_eq (Sub16.exec_eq (by constructor) s) (arith16_endsIn hP h _ _)
  | cmpwAxImm | cmpwAxRp | cmpwAxSaddrp | cmpwAxAbs | cmpwAxEsAbs | cmpwAxHlOff | cmpwAxEsHlOff =>
    exact .of_eq (Compare16.exec_eq (by constructor) s) (compare16_endsIn hP h _)
  | incR | incSaddr | incAbs | incEsAbs | incHlOff | incEsHlOff =>
    exact .of_eq (Inc8.exec_eq (by constructor) s) (step8_endsIn hP h _ _)
  | decR | decSaddr | decAbs | decEsAbs | decHlOff | decEsHlOff =>
    exact .of_eq (Dec8.exec_eq (by constructor) s) (step8_endsIn hP h _ _)
  | incwRp | incwSaddrp | incwAbs | incwEsAbs | incwHlOff | incwEsHlOff =>
    exact .of_eq (Inc16.exec_eq (by constructor) s) (step16_endsIn hP h _ _)
  | decwRp | decwSaddrp | decwAbs | decwEsAbs | decwHlOff | decwEsHlOff =>
    exact .of_eq (Dec16.exec_eq (by constructor) s) (step16_endsIn hP h _ _)
  | mov1CyABit | mov1CySaddrBit | mov1CySfrBit | mov1CyHlBit | mov1CyEsHlBit | and1CyABit | and1CySaddrBit |
    and1CySfrBit | and1CyHlBit | and1CyEsHlBit | or1CyABit | or1CySaddrBit | or1CySfrBit | or1CyHlBit |
    or1CyEsHlBit | xor1CyABit | xor1CySaddrBit | xor1CySfrBit | xor1CyHlBit | xor1CyEsHlBit =>
    exact .of_eq (BitToCy.exec_eq (by constructor) s) (bitToCy_endsIn hP h _ _ _)
  | mov1ABitCy | mov1SaddrBitCy | mov1SfrBitCy | mov1HlBitCy | mov1EsHlBitCy | set1ABit | set1AbsBit |
    set1EsAbsBit | set1SaddrBit | set1SfrBit | set1HlBit | set1EsHlBit | clr1ABit | clr1AbsBit | clr1EsAbsBit |
    clr1SaddrBit | clr1SfrBit | clr1HlBit | clr1EsHlBit =>
    exact .of_eq (BitStore.exec_eq (by constructor) s) (putBit8_endsIn hP h _ _ _)
  | bc | bnc | bz | bnz | bh | bnh => exact .of_eq (Branch.exec_eq (by constructor) s) (branchIf_endsIn hP h _ _)
  | btPswBit | bfPswBit => exact .of_eq (PswBitBranch.exec_eq (by constructor) s) (branchIf_endsIn hP h _ _)
  | btSaddrBit | btSfrBit | btABit | btHlBit | btEsHlBit | bfSaddrBit | bfSfrBit | bfABit | bfHlBit | bfEsHlBit =>
    exact .of_eq (BitBranch.exec_eq (by constructor) s) (branchOnBit_endsIn hP h _ _ _ _)
  | btclrSaddrBit | btclrSfrBit | btclrABit | btclrHlBit | btclrEsHlBit =>
    exact .of_eq (BitClearBranch.exec_eq (by constructor) s) (branchClear_endsIn hP h _ _ _)
  | btclrPswBit => exact (branchClearPswBit_endsIn hP h _ _).finish
  | callRp | callAbs16 | callAbs20 | callt => exact (call_endsIn hP h _).finish
  | callRel16 => exact (EndsIn.reading fun _ => call_endsIn hP h _).finish
  | ret => exact (returnFromCall_endsIn hP h).finish
  | retb => exact (returnFromException_endsIn hP h).finish
  | reti => exact (EndsIn.map (f := (·.log .endOfService)) (returnFromException_endsIn hP h) fun _ ht =>
      hP.same ht rfl rfl).finish
  | brk => exact (takeException_endsIn hP h _ _).finish
  | pushPsw | pushRp => exact (push_endsIn hP h _ _).finish
  | popPsw => exact (holding_endsIn hP (popPsw_endsIn hP h)).finish
  | popRp => exact (EndsIn.reading fun _ => .reading fun _ => .ok (hP.same h (by simp) (by simp))).finish
  | brRel8 | brRel16 => exact (jumpRelative_endsIn hP h _).finish
  | mulhu | mulh | machu | mach => exact (onS3_endsIn hP h (by simp) (by simp)).finish
  | divhu | divwu => exact (onS3_endsIn hP h (by simp [apply_ite]) (by simp [apply_ite])).finish
  | sel => refine EndsIn.finish (.ite (.error _) (.ok (hP.same h ?_ ?_))) <;> rfl
  | xchAX | xchAR | xchwAxRp | shrA | shlA | shlB | shlC | sarA | rorA | rolA | rorcA | rolcA | shrwAx | shlwAx |
    shlwBc | sarwAx | rolwcAx | rolwcBc | muluX => exact .next (hP.same h (by simp) (by simp))
  | mov1PswBitCy | set1PswBit | clr1PswBit | mov1CyPswBit | and1CyPswBit | or1CyPswBit | xor1CyPswBit | set1Cy |
    clr1Cy | not1Cy | ei | di | skc | sknc | skz | sknz | skh | sknh | addwSpImm | subwSpImm | brAx | brAbs16 |
    brAbs20 | nop | halt | stop => exact .next (hP.same h rfl rfl)
  | prefixByte => rintro _ ⟨⟩

/-- Running or skipping an instruction keeps what stores to internal RAM keep. -/
theorem runInstruction_nextIn : NextIn P (runInstruction s) := by
  intro t e
  obtain ⟨i, n, -, ⟨-, rfl⟩ | ⟨-, he⟩⟩ := runInstruction_next e
  · exact hP.same h rfl rfl
  · exact exec_nextIn hP (s := startInstruction s n) (hP.same h rfl rfl) i t he

end

/-! ## Memory outside internal RAM -/

/-- The parameters are `c`, memory is in canonical form, and outside internal RAM its bytes are those of `m`. -/
structure HasFlash (c : Config) (m : Memory) (t : State) : Prop where
  cfg : t.cfg = c
  wf : t.mem.wf = true
  read : ∀ a, inRam c a = false → t.mem.read a = m.read a

theorem HasFlash.self {s : State} (h : s.mem.wf = true) : HasFlash s.cfg s.mem s := ⟨rfl, h, fun _ _ => rfl⟩

theorem hasFlash_ramInvariant (c : Config) (m : Memory) : RamInvariant (HasFlash c m) where
  same h hc hm := ⟨hc.trans h.cfg, hm ▸ h.wf, hm ▸ h.read⟩
  store {s a} v ha h := by
    refine ⟨h.cfg, Memory.wf_write h.wf a v, fun b hb => ?_⟩
    have hne : b ≠ a := by
      rintro rfl
      rw [h.cfg, hb] at ha
      cases ha
    rw [Memory.read_write h.wf, if_neg hne, h.read b hb]

/-- A step that goes on leaves every byte outside internal RAM as it was. -/
theorem step_hasFlash {s t : State} (hm : s.mem.wf = true) (h : step s = .next t) : HasFlash s.cfg s.mem t := by
  have hI := hasFlash_ramInvariant s.cfg s.mem
  have hb : HasFlash s.cfg s.mem (atBoundary s) := hI.same (.self hm) rfl rfl
  obtain ⟨-, rfl⟩ | ⟨-, -, rfl⟩ | ⟨-, -, ⟨q, -, hq⟩ | ⟨-, hx⟩⟩ := step_cases h
  · exact ⟨rfl, resetMemory_wf _ _ hm, fun _ => resetMemory_read _ _ hm⟩
  · exact hI.same (.self hm) rfl rfl
  · exact acceptInterrupt_endsIn hI hb q t hq
  · exact runInstruction_nextIn hI hb t hx

end Sys2Proof.Machine
end

section
/-!
SUPPORT. What stands at a data address (20_memory.md R51), area by area: one equation of `place` for each area of an
allowed configuration, and what a byte read or store does there.
-/

namespace Sys2Proof.Machine

open Sys2Proof.Forms

/-! ## What an allowed configuration says (20_memory.md R54, R62, R63, R66) -/

theorem Config.flashTop_le {c : Config} (h : c.wf = true) : c.flashTop ≤ 0xEFFFF := by
  simp only [Config.wf, Bool.and_eq_true, decide_eq_true_eq] at h
  tauto

theorem Config.le_ramBase {c : Config} (h : c.wf = true) : 0xF0800 ≤ c.ramBase := by
  simp only [Config.wf, Bool.and_eq_true, decide_eq_true_eq] at h
  tauto

theorem inRanges_iff {l : List (Nat × Nat)} {n : Nat} : inRanges l n = true ↔ ∃ r ∈ l, r.1 ≤ n ∧ n ≤ r.2 := by
  simp [inRanges]

theorem inRanges_dflash_iff {c : Config} {n : Nat} :
    inRanges c.dflash.toList n = true ↔ ∃ lo hi, c.dflash = some (lo, hi) ∧ lo ≤ n ∧ n ≤ hi := by
  simp [inRanges_iff]

/-- Data flash lies between the 2nd SFRs and RAM. -/
theorem Config.dflash_range {c : Config} {n : Nat} (h : c.wf = true) (hn : inRanges c.dflash.toList n = true) :
    0xF0800 ≤ n ∧ n < c.ramBase := by
  obtain ⟨lo, hi, hd, h1, h2⟩ := inRanges_dflash_iff.1 hn
  simp only [Config.wf, hd, Bool.and_eq_true, decide_eq_true_eq] at h
  omega

/-- The mirror lies between the 2nd SFRs and RAM, outside data flash. -/
theorem Config.mirror_range {c : Config} {n : Nat} (h : c.wf = true) (hn : inRanges c.mirror n = true) :
    0xF0800 ≤ n ∧ n < c.ramBase ∧ inRanges c.dflash.toList n = false := by
  obtain ⟨⟨lo, hi⟩, hr, h1, h2⟩ := inRanges_iff.1 hn
  simp only [Config.wf, Bool.and_eq_true, List.all_eq_true] at h
  have hm := h.2 _ hr
  simp only [decide_eq_true_eq] at hm h1 h2
  refine ⟨by omega, by omega, Bool.eq_false_iff.2 fun hd => ?_⟩
  obtain ⟨dlo, dhi, hd, h3, h4⟩ := inRanges_dflash_iff.1 hd
  simp only [hd, Bool.or_eq_true, decide_eq_true_eq] at hm
  omega

/-- Code may be fetched from code flash and from RAM below the registers (20_memory.md R52; 10_state.md R16). -/
theorem fetchable_iff {c : Config} (h : c.wf = true) (a : Nat) :
    fetchable c a = true ↔ a ≤ c.flashTop ∨ (c.ramBase ≤ a ∧ a < 0xFFEE0) := by
  have := Config.flashTop_le h
  simp only [fetchable, inRam, Bool.or_eq_true, Bool.and_eq_true, decide_eq_true_eq]
  omega

/-! ## The areas of the data path -/

/-- The CPU registers stand at their addresses; MACR on S3 only (10_state.md R33, R34). -/
theorem cpuSfrAt_eq_some {core : CpuCore} {r : CpuSfr} (h : ∀ k, r = .macr k → core = .s3) :
    cpuSfrAt core r.addr = some r := by
  cases r with
  | macr k =>
    obtain rfl := h k rfl
    fin_cases k <;> rfl
  | spl | sph | psw | cs | es | pmc => rfl

/-- A device stands at an address of SFR space that is no CPU register's. -/
theorem cpuSfrAt_eq_none_iff {core : CpuCore} {n : Nat} (h : 0xFFF00 ≤ n) (hn : n ≤ 0xFFFFF) :
    cpuSfrAt core n = none ↔ IsDevice core n := by
  unfold cpuSfrAt IsDevice
  by_cases hs : core = .s3 <;> simp only [hs, true_and, false_and, not_false_eq_true, and_true, if_false]
  all_goals split_ifs <;> simp <;> omega

section

variable {s : State} {a : Addr}

theorem inRam_eq_true {c : Config} {n : Nat} (h : c.ramBase ≤ n) (hn : n ≤ 0xFFEFF) : inRam c n = true := by
  simp [inRam, h, hn]

theorem inRam_eq_false {c : Config} {n : Nat} (h : n < c.ramBase) : inRam c n = false := by
  simp [inRam]
  omega

theorem place_cpu {r : CpuSfr} (ha : a.toNat = r.addr) (h : ∀ k, r = .macr k → s.cfg.core = .s3) :
    place s a = .cpu r := by
  have hr : 0xFFF00 ≤ r.addr := by cases r <;> simp [CpuSfr.addr]; omega
  simp only [place, ha, hr, if_true, cpuSfrAt_eq_some h]

theorem place_of_ram (h : s.cfg.ramBase ≤ a.toNat) (ha : a.toNat < 0xFFEE0) : place s a = .ram a.toNat := by
  have h1 : ¬ 0xFFF00 ≤ a.toNat := by omega
  simp only [place, h1, if_false, inRam_eq_true h (by omega), if_true, ha]

variable (hc : s.cfg.wf = true)
include hc

theorem place_gpr {n : BankNo} {r : Reg} (ha : a.toNat = regAddr n r) (hn : s.cfg.core = .s1 → n = .rb0) :
    place s a = .gpr n r := by
  have hb := Config.ramBase_le hc
  obtain ⟨h1, h2⟩ := regAddr_range n r
  have h3 : ¬(s.cfg.core = .s1 ∧ regAddr n r < 0xFFEF8) := by
    rintro ⟨e, hlt⟩
    obtain rfl := hn e
    revert hlt
    cases r <;> decide
  have h4 : ¬ 0xFFF00 ≤ regAddr n r := by omega
  have h5 : ¬ regAddr n r < 0xFFEE0 := by omega
  simp only [place, ha, h3, h4, h5, if_false, inRam_eq_true (hb.trans h1) h2, if_true, bankAt_regAddr, ofCode_regAddr]

/-- On S1 nothing stands below its one bank (20_memory.md R55). -/
theorem place_s1_unusable (hs : s.cfg.core = .s1) (h1 : 0xFFEE0 ≤ a.toNat) (h2 : a.toNat < 0xFFEF8) :
    place s a = .unusable := by
  have hb := Config.ramBase_le hc
  have h3 : ¬ 0xFFF00 ≤ a.toNat := by omega
  have h4 : ¬ a.toNat < 0xFFEE0 := by omega
  simp only [place, h3, h4, if_false, inRam_eq_true (hb.trans h1) (by omega), if_true, hs, h2, and_self]

/-- Below RAM and outside the 2nd SFRs, data flash comes first, then the mirror, then code flash. -/
theorem place_below_ram (h1 : a.toNat < s.cfg.ramBase) (h2 : a.toNat < 0xF0000 ∨ 0xF07FF < a.toNat) :
    place s a = if inRanges s.cfg.dflash.toList a.toNat then .dataFlash a.toNat
      else if inRanges s.cfg.mirror a.toNat then
        (if s.pmcDelay = 1 ∨ mirrorSource s a.toNat ≤ s.cfg.flashTop then .mirror (mirrorSource s a.toNat) a.toNat
          else .unusable)
      else if a.toNat ≤ s.cfg.flashTop then .codeFlash a.toNat
      else .unusable := by
  have hb := Config.ramBase_le hc
  have h3 : ¬ 0xFFF00 ≤ a.toNat := by omega
  have h4 : ¬(0xF0000 ≤ a.toNat ∧ a.toNat < 0xF0800) := by omega
  simp only [place, h3, h4, inRam_eq_false h1, Bool.false_eq_true, if_false]

theorem place_dataFlash {lo hi : Nat} (hd : s.cfg.dflash = some (lo, hi)) (h1 : lo ≤ a.toNat) (h2 : a.toNat ≤ hi) :
    place s a = .dataFlash a.toNat := by
  have hr := inRanges_dflash_iff.2 ⟨lo, hi, hd, h1, h2⟩
  obtain ⟨h3, h4⟩ := Config.dflash_range hc hr
  rw [place_below_ram hc h4 (by omega), if_pos hr]

theorem place_mirror (hm : inRanges s.cfg.mirror a.toNat = true) :
    place s a = if s.pmcDelay = 1 ∨ mirrorSource s a.toNat ≤ s.cfg.flashTop then
      .mirror (mirrorSource s a.toNat) a.toNat else .unusable := by
  obtain ⟨h1, h2, hd⟩ := Config.mirror_range hc hm
  rw [place_below_ram hc h2 (by omega), hd, if_neg Bool.false_ne_true, if_pos hm]

theorem place_codeFlash (h : a.toNat ≤ s.cfg.flashTop) : place s a = .codeFlash a.toNat := by
  have hf := Config.flashTop_le hc
  have hb := Config.le_ramBase hc
  have hd : ¬ inRanges s.cfg.dflash.toList a.toNat = true := fun k => by
    have := Config.dflash_range hc k
    omega
  have hm : ¬ inRanges s.cfg.mirror a.toNat = true := fun k => by
    have := Config.mirror_range hc k
    omega
  rw [place_below_ram hc (by omega) (by omega), if_neg hd, if_neg hm, if_pos h]

theorem place_unusable (h : IsUnusable s.cfg a.toNat) : place s a = .unusable := by
  obtain ⟨hf, h2, hr, hd, hm⟩ := h
  rw [place_below_ram hc hr (by omega), hd, hm, if_neg Bool.false_ne_true, if_neg Bool.false_ne_true, if_neg (by omega)]

/-- A product SFR stands exactly at the addresses of R64 and R65. -/
theorem place_eq_device_iff {n : Nat} : place s a = .device n ↔ IsDevice s.cfg.core a.toNat ∧ n = a.toNat := by
  have hb := Config.ramBase_le hc
  have hl := Config.le_ramBase hc
  have hlt := a.isLt
  by_cases hs : 0xFFF00 ≤ a.toNat
  · rw [← cpuSfrAt_eq_none_iff hs (by omega)]
    cases hr : cpuSfrAt s.cfg.core a.toNat <;> simp [place, hs, hr, eq_comm]
  · have hdev : IsDevice s.cfg.core a.toNat ↔ 0xF0000 ≤ a.toNat ∧ a.toNat < 0xF0800 := by
      unfold IsDevice
      omega
    rw [hdev]
    unfold place
    by_cases h2 : 0xF0000 ≤ a.toNat ∧ a.toNat < 0xF0800
    · simp [hs, h2, inRam_eq_false (show a.toNat < s.cfg.ramBase by omega), eq_comm]
    · simp only [hs, h2, if_false, false_and, iff_false]
      split_ifs <;> simp

end

/-! ## Bytes -/

section

variable {s : State} {a : Addr}

theorem readByte_cpu {r : CpuSfr} (ha : a.toNat = r.addr) (h : ∀ k, r = .macr k → s.cfg.core = .s3) :
    readByte s a = .ok (s.readCpu r) := by
  simp only [readByte, place_cpu ha h]

theorem readByte_unusable (h : place s a = .unusable) : readByte s a = .error (.fault .unusableArea) := by
  simp only [readByte, h]

theorem writeByte_unusable (h : place s a = .unusable) (v : Byte) :
    writeByte s a v = .error (.fault .unusableArea) := by
  simp only [writeByte, h]

/-- A store to PMC with bit 0 = 1 is refused on S1 (10_state.md R30; D37). -/
theorem writePmc_s1_odd (hs : s.cfg.core = .s1) {v : Byte} (hv : v.toNat % 2 = 1) :
    s.writePmc v = .error (.refused .pmcOnS1) := by
  have hb : bitOf v 0 = true := by simp [bitOf_eq, hv]
  simp only [State.writePmc, hs, hb, and_self, if_true]

/-- Byte `k` of MACR, by arithmetic. -/
theorem readCpu_macr (s : State) (k : Fin 4) : s.readCpu (.macr k) = BitVec.ofNat 8 (s.macr.toNat / 256 ^ k.val) := by
  apply BitVec.eq_of_toNat_eq
  fin_cases k <;> simp [State.readCpu, Nat.shiftRight_eq_div_pow]

end

end Sys2Proof.Machine
end

section
/-!
SUPPORT. What a fetch, a move, a word access and a store to storage do, by the areas of the data path (20_memory.md R50,
R52, R53, R72, R75).
-/

namespace Sys2Proof.Machine

open Sys2Proof.Forms

/-! ## Fetch -/

theorem fetchBytes_of_not_fetchable {s : State} {a : Addr} (h : fetchable s.cfg a.toNat = false) (n : Nat) :
    fetchBytes s n a = [] := by
  cases n <;> simp [fetchBytes, h]

theorem runInstruction_of_not_fetchable {s : State} (h : fetchable s.cfg s.pc.toNat = false) :
    runInstruction s = .fault .fetchOutsideCode := by
  rw [runInstruction, fetchBytes_of_not_fetchable h]
  rfl

/-! ## A move whose destination cannot be written -/

/-- Where a store stops does not depend on what the devices have seen. -/
theorem writeByte_logAll_error {s : State} {a : Addr} {v : Byte} {x : Stop} (h : writeByte s a v = .error x)
    (e : List DevEvent) : writeByte (s.logAll e) a v = .error x := by
  unfold writeByte at h ⊢
  rw [place_logAll]
  cases hp : place s a with
  | cpu r =>
    rw [hp] at h
    cases r with
    | pmc =>
      simp only [State.writeCpu, State.writePmc] at h ⊢
      split at h
      · rename_i hs
        rw [if_pos (by exact hs)]
        exact h
      · cases h
    | spl | sph | psw | cs | es | macr => cases h
  | device n | gpr n r | ram n => rw [hp] at h; cases h
  | dataFlash | mirror | codeFlash | unusable => rw [hp] at h; exact h

/-- A move whose store stops, stops as the store does. -/
theorem move8_error {s : State} {m : MemOp} {src : Src8} {a : Addr} {v : Byte} {x : Stop} (hv : src.value s = .ok v)
    (ha : memAddr s m = .ok (.data a)) (h : writeByte s a v = .error x) : move8 (.mem m) src s = .error x := by
  rw [move8, hv, Src8.touched_eq]
  show (Loc8.mem m).write (s.logAll _) v = _
  rw [Loc8.write, memAddr_logAll, ha]
  exact writeByte_logAll_error h _

/-! ## Words -/

theorem evenAddr_eq {a b : Addr} (h : b.toNat = 2 * (a.toNat / 2)) : evenAddr a = b :=
  BitVec.eq_of_toNat_eq ((evenAddr_toNat a).trans h.symm)

theorem lowByte_eq (w : Word) : lowByte w = BitVec.ofNat 8 w.toNat :=
  BitVec.eq_of_toNat_eq (by rw [lowByte_toNat]; rfl)

theorem highByte_eq (w : Word) : highByte w = BitVec.ofNat 8 (w.toNat / 256) := by
  apply BitVec.eq_of_toNat_eq
  have := w.isLt
  rw [highByte_toNat, BitVec.toNat_ofNat]
  omega

section

variable {s : State} {a b : Addr}

theorem deviceWord_eq_some (hc : s.cfg.wf = true) (h : evenAddr a = b) (h0 : IsDevice s.cfg.core b.toNat)
    (h1 : IsDevice s.cfg.core (b + 1).toNat) : deviceWord s a = some b.toNat := by
  rw [deviceWord, h, (place_eq_device_iff hc).2 ⟨h0, rfl⟩, (place_eq_device_iff hc).2 ⟨h1, rfl⟩]

theorem deviceWord_eq_none (hc : s.cfg.wf = true) (h : evenAddr a = b)
    (hn : ¬(IsDevice s.cfg.core b.toNat ∧ IsDevice s.cfg.core (b + 1).toNat)) : deviceWord s a = none := by
  rw [deviceWord, h]
  split
  · rename_i h0 h1
    exact absurd ⟨((place_eq_device_iff hc).1 h0).1, ((place_eq_device_iff hc).1 h1).1⟩ hn
  · rfl

/-- A word that is no device's is read byte by byte, the low byte first. -/
theorem readWord_of_none (h : evenAddr a = b) (hd : deviceWord s a = none) :
    readWord s a = (do let lo ← readByte s b; let hi ← readByte s (b + 1); .ok (wordOf hi lo)) := by
  rw [readWord, hd, h]

/-- A word that is no device's is written byte by byte, the low byte first. -/
theorem writeWord_of_none (h : evenAddr a = b) (hd : deviceWord s a = none) (v : Word) :
    writeWord s a v = (do let t ← writeByte s b (lowByte v); writeByte t (b + 1) (highByte v)) := by
  rw [writeWord, hd, h]

end

/-- The even offset of [SP+byte], by arithmetic. -/
theorem even_offset_eq {w e : Word} (h : e.toNat = w.toNat / 2 * 2) : w &&& 0xFFFE = e := by
  have h1 : w &&& 0xFFFE#16 = (w >>> 1) <<< 1 := by
    apply BitVec.eq_of_getLsbD_eq
    intro i hi
    interval_cases i <;> simp
  apply BitVec.eq_of_toNat_eq
  have := w.isLt
  show (w &&& 0xFFFE#16).toNat = _
  rw [h1, h, BitVec.toNat_shiftLeft, BitVec.toNat_ushiftRight, Nat.shiftRight_eq_div_pow, Nat.shiftLeft_eq]
  omega

/-! ## Storage bytes: internal RAM and the general registers -/

/-- A byte of storage stands at the address: RAM, or a register that the core has. -/
def IsStorage (c : Config) (n : Nat) : Prop :=
  c.ramBase ≤ n ∧ n ≤ 0xFFEFF ∧ ¬(c.core = .s1 ∧ 0xFFEE0 ≤ n ∧ n < 0xFFEF8)

section

variable {s : State} {a : Addr}

theorem place_of_storage (h : IsStorage s.cfg a.toNat) :
    place s a = if a.toNat < 0xFFEE0 then .ram a.toNat else .gpr (bankAt a.toNat) (Reg.ofCode a.toNat) := by
  obtain ⟨h1, h2, h3⟩ := h
  by_cases hr : a.toNat < 0xFFEE0
  · rw [if_pos hr, place_of_ram h1 hr]
  · have h4 : ¬ 0xFFF00 ≤ a.toNat := by omega
    have h5 : ¬(s.cfg.core = .s1 ∧ a.toNat < 0xFFEF8) := fun ⟨e, hlt⟩ => h3 ⟨e, by omega, hlt⟩
    simp only [place, h4, hr, h5, inRam_eq_true h1 h2, if_true, if_false]

/-- A read of a storage byte finds it. -/
theorem readByte_storage (h : IsStorage s.cfg a.toNat) : readByte s a = .ok (s.cell a.toNat) := by
  unfold readByte State.cell
  rw [place_of_storage h]
  by_cases hr : a.toNat < 0xFFEE0
  · simp [hr]
  · simp [hr, h.2.1, not_lt.1 hr]

/-- A store at a storage byte's address reaches that byte and nothing else. -/
theorem byteWritable_storage (h : IsStorage s.cfg a.toNat) {v : Byte} :
    ByteWritable s v a ∧ byteCell s a = some a.toNat ∧ byteCpu s a = none ∧ ∀ e, byteEvent s a e = [] := by
  unfold ByteWritable byteCell byteCpu byteEvent
  rw [place_of_storage h]
  by_cases hr : a.toNat < 0xFFEE0
  · simp [hr]
  · simp [hr, regAddr_at (not_lt.1 hr) h.2.1]

end

/-- A word of storage is no device's. -/
theorem deviceWord_storage {s : State} {a : Addr} (he : evenAddr a = a) (h : IsStorage s.cfg a.toNat) :
    deviceWord s a = none := by
  rw [deviceWord, he, place_of_storage h]
  split_ifs <;> rfl

/-! ## Reads after a store to storage -/

/-- The flash bytes that a data access shows lie below RAM. -/
theorem place_flash {s : State} (hc : s.cfg.wf = true) (a : Addr) :
    (∀ n, place s a = .dataFlash n → n < s.cfg.ramBase) ∧ (∀ n, place s a = .codeFlash n → n < s.cfg.ramBase)
      ∧ ∀ n m, place s a = .mirror n m → s.pmcDelay ≠ 1 → n < s.cfg.ramBase := by
  have hf := Config.flashTop_le hc
  have hb := Config.le_ramBase hc
  unfold place
  dsimp only
  split_ifs with h1 h2 h3 h4 h5 h6 h7 h8 h9
  case pos => cases cpuSfrAt s.cfg.core a.toNat <;> simp
  all_goals simp
  · have := (Config.dflash_range hc h6).2
    omega
  · omega
  · omega

section

variable {s t : State} {cells : Nat → Option Byte}

theorem cell_of_lt (s : State) {n : Nat} (h : n < 0xFFEE0) : s.cell n = s.mem.read n := by
  have : ¬(0xFFEE0 ≤ n ∧ n ≤ 0xFFEFF) := by omega
  simp only [State.cell, this, if_false]

/-- After changes to storage alone, a byte whose address was not stored to reads as before, wherever it lies. -/
theorem readByte_frame (hc : s.cfg.wf = true) (h : Changes s t cells unchanged [])
    (hs : ∀ x, x < s.cfg.ramBase → cells x = none) {b : Addr} (hb : cells b.toNat = none) :
    readByte t b = readByte s b := by
  have hp : place t b = place s b := place_congr h.cfg (h.control .pmc) h.pmcDelay b
  have hr := Config.ramBase_le hc
  obtain ⟨hdata, hcode, hmirror⟩ := place_flash hc b
  have hcell {n : Nat} (hn : n = b.toNat) : t.cell n = s.cell n := by
    rw [h.storage, hn, hb]
    rfl
  have hflash {n : Nat} (hn : n < s.cfg.ramBase) : t.mem.read n = s.mem.read n := by
    rw [← cell_of_lt t (hn.trans_le hr), ← cell_of_lt s (hn.trans_le hr), h.storage, hs n hn]
    rfl
  unfold readByte
  rw [hp]
  cases hq : place s b with
  | device n =>
    have : t.devLog = s.devLog := by simpa using h.seen
    simp only [this]
  | cpu r => exact congrArg Except.ok (h.control r)
  | gpr n r =>
    have hn : regAddr n r = b.toNat := byteCell_toNat (s := s) (by simp only [byteCell, hq])
    exact congrArg Except.ok (by rw [← cell_regAddr t, ← cell_regAddr s, hcell hn])
  | ram n =>
    have hn : n = b.toNat := byteCell_toNat (s := s) (by simp only [byteCell, hq])
    have hl := (place_ram hq).1
    exact congrArg Except.ok (by rw [← cell_of_lt t hl, ← cell_of_lt s hl, hcell hn])
  | dataFlash n => exact congrArg Except.ok (hflash (hdata n hq))
  | codeFlash n => exact congrArg Except.ok (hflash (hcode n hq))
  | mirror n m =>
    have hd : t.pmcDelay = s.pmcDelay := h.pmcDelay
    refine congrArg Except.ok ?_
    unfold mirrorByte State.freeByte
    rw [hd, h.draws]
    split
    · rfl
    · exact hflash (hmirror n m hq ‹_›)
  | unusable => rfl

/-- After changes to storage alone, a stored byte reads as what was stored. -/
theorem readByte_stored (h : Changes s t cells unchanged []) {a : Addr} (ha : IsStorage s.cfg a.toNat) {v : Byte}
    (hv : cells a.toNat = some v) : readByte t a = .ok v := by
  rw [readByte_storage (h.cfg ▸ ha), h.storage, hv]
  rfl

end

/-- A byte stored to storage: exactly that byte changes. -/
theorem writeByte_storage {s : State} (l : s.Legal) {a : Addr} (ha : IsStorage s.cfg a.toNat) (v : Byte) :
    ∃ t, writeByte s a v = .ok t
      ∧ Changes s t (fun x => if x = a.toNat then some v else none) unchanged [] := by
  obtain ⟨hw, hcell, hcpu, hev⟩ := byteWritable_storage ha (v := v)
  obtain ⟨t, ht, hch, -⟩ := writeByte_spec l hw
  refine ⟨t, ht, hch.congr (fun x => ?_) (fun r => ?_) (hev _)⟩
  · simp [hcell, eq_comm]
  · simp [hcpu, unchanged]

theorem eitherByte_low (i j : Nat) (v : Word) : eitherByte (some i) (some j) v i = some (lowByte v) := if_pos rfl

theorem eitherByte_high {i j : Nat} (h : i ≠ j) (v : Word) : eitherByte (some i) (some j) v j = some (highByte v) := by
  simp [eitherByte, h]

theorem eitherByte_other {i j x : Nat} (hi : i ≠ x) (hj : j ≠ x) (v : Word) :
    eitherByte (some i) (some j) v x = none := by
  simp [eitherByte, hi, hj]

/-- A word stored to storage: exactly its two bytes change. -/
theorem writeWord_storage {s : State} (l : s.Legal) {a : Addr} (he : evenAddr a = a) (h0 : IsStorage s.cfg a.toNat)
    (h1 : IsStorage s.cfg (a + 1).toNat) (v : Word) :
    ∃ t, writeWord s a v = .ok t
      ∧ Changes s t (eitherByte (some a.toNat) (some (a + 1).toNat) v) unchanged [] := by
  obtain ⟨hw0, hcell0, hcpu0, hev0⟩ := byteWritable_storage h0 (v := lowByte v)
  obtain ⟨hw1, hcell1, hcpu1, hev1⟩ := byteWritable_storage h1 (v := highByte v)
  obtain ⟨t, ht, hch, -⟩ := writeWord_spec l (a := a) (v := v) (he.symm ▸ hw0) (he.symm ▸ hw1)
  refine ⟨t, ht, hch.congr (fun x => ?_) (fun r => ?_) ?_⟩
  · rw [wordCells, he, hcell0, hcell1]
  · simp only [wordCpu, he, hcpu0, hcpu1, reduceCtorEq, if_false, unchanged]
  · rw [wordEvents, deviceWord_storage he h0, he, hev0, hev1]
    rfl

end Sys2Proof.Machine
end

section
/-!
PROOFS. The statements of the family 20_memory.md: flash, fetch, the data path by area, words, a load after a store.
-/

namespace Sys2Proof.Machine

open Sys2Proof.Forms

/-- Settles O16: all that a step does to memory is to store bytes in internal RAM. -/
theorem noStepChangesFlash : Obligations.NoStepChangesFlash := by
  intro s t l h
  have hf := step_hasFlash l.mem h
  refine ⟨hf.cfg, fun a ha => hf.read a ?_⟩
  simp [inRam]
  omega

/-- Settles O8: by the fetch view's bytes, and since nothing decodes where no byte can be fetched. -/
theorem fetchSeesCodeAreasOnly : Obligations.FetchSeesCodeAreasOnly := by
  intro s l
  refine ⟨fetchable_iff l.cfg, fun a => nextFetchView_read l.queue a, fun target a => nextFetchView_jump l.mem target a,
    fun hr hm hq hf => ?_⟩
  rw [step_of_boundary hr ((staysInStandby_eq_false_iff s _).2 hm),
    boundary_of_none ((pendingRequest_atBoundary s _).trans hq)]
  exact runInstruction_of_not_fetchable hf

/-- Settles O19, by what stands in each area. -/
theorem dataReadsResolveByArea : Obligations.DataReadsResolveByArea := by
  intro s a l
  have hc := l.cfg
  refine ⟨?spl, ?sph, ?psw, ?cs, ?es, ?pmc, ?macr, ?device, ?ram, ?gpr, ?s1, ?dataFlash, ?mirror, ?mirrorAbove,
    ?mirrorUnsettled, ?codeFlash, ?unusable⟩
  case spl => rintro rfl; exact readByte_cpu (r := .spl) rfl nofun
  case sph => rintro rfl; exact readByte_cpu (r := .sph) rfl nofun
  case psw => rintro rfl; exact readByte_cpu (r := .psw) rfl nofun
  case cs => rintro rfl; exact readByte_cpu (r := .cs) rfl nofun
  case es => rintro rfl; exact readByte_cpu (r := .es) rfl nofun
  case pmc => rintro rfl; exact readByte_cpu (r := .pmc) rfl nofun
  case macr =>
    intro k hk h3 ha
    rw [readByte_cpu (r := .macr ⟨k, hk⟩) ha fun _ _ => h3, readCpu_macr]
  case device => intro h; simp only [readByte, (place_eq_device_iff hc).2 ⟨h, rfl⟩]
  case ram => intro h1 h2; simp only [readByte, place_of_ram h1 h2]
  case gpr => intro n r ha hn; simp only [readByte, place_gpr hc ha hn]
  case s1 => intro hs h1 h2; exact readByte_unusable (place_s1_unusable hc hs h1 h2)
  case dataFlash => intro lo hi hd h1 h2; simp only [readByte, place_dataFlash hc hd h1 h2]
  case mirror =>
    intro hm hsrc hd
    simp only [readByte, place_mirror hc hm, if_pos (Or.inr hsrc), mirrorByte, if_neg hd]
  case mirrorAbove =>
    intro hm hsrc hd
    exact readByte_unusable (by rw [place_mirror hc hm, if_neg (by omega)])
  case mirrorUnsettled =>
    intro hm hd
    exact ⟨_, by simp only [readByte, place_mirror hc hm, if_pos (Or.inl hd)]; rfl⟩
  case codeFlash => intro h; simp only [readByte, place_codeFlash hc h]
  case unusable => intro h; exact readByte_unusable (place_unusable hc h)

/-- Settles O20, by what stands in each area; a move whose store stops, stops as the store does. -/
theorem storesOutsideWritableAreasStop : Obligations.StoresOutsideWritableAreasStop := by
  intro s a v l
  have hc := l.cfg
  refine ⟨?codeFlash, ?dataFlash, ?mirror, ?mirrorAbove, ?s1, ?unusable, ?pmc, ?move⟩
  case codeFlash => intro h; simp only [writeByte, place_codeFlash hc h]
  case dataFlash => intro lo hi hd h1 h2; simp only [writeByte, place_dataFlash hc hd h1 h2]
  case mirror => intro hm h; simp only [writeByte, place_mirror hc hm, if_pos h.symm]
  case mirrorAbove =>
    intro hm hsrc hd
    exact writeByte_unusable (by rw [place_mirror hc hm, if_neg (by omega)]) v
  case s1 => intro hs h1 h2; exact writeByte_unusable (place_s1_unusable hc hs h1 h2) v
  case unusable => intro h; exact writeByte_unusable (place_unusable hc h) v
  case pmc =>
    rintro hs rfl hv
    have hp : place s 0xFFFFE = .cpu .pmc := place_cpu rfl nofun
    simp only [writeByte, hp, State.writeCpu, writePmc_s1_odd hs hv]
  case move =>
    intro i m src hi hv ha
    refine ⟨fun r h => ?_, fun f h => ?_⟩
    all_goals
      rw [hi.exec_eq, move8_error hv ha h]
      rfl

/-- Settles O21: the even address, then whether both bytes are a device's. -/
theorem wordAccessIsEvenAndLittleEndian : Obligations.WordAccessIsEvenAndLittleEndian := by
  intro s a b l hb
  have hc := l.cfg
  have hlt := a.isLt
  have ha : evenAddr a = b := evenAddr_eq hb
  have hbb : evenAddr b = b := evenAddr_eq (by omega)
  have hb1 : (b + 1).toNat = b.toNat + 1 := by rw [← ha, oddAddr_toNat, evenAddr_toNat]
  refine ⟨⟨?_, fun v => ?_⟩, fun h0 h1 => ?_, fun hn => ?_, fun m hm => ?_, fun off e lo hi he => ?_⟩
  · simp only [readWord, deviceWord, ha, hbb]
  · simp only [writeWord, deviceWord, ha, hbb]
  · have hd := deviceWord_eq_some hc ha h0 (hb1 ▸ h1)
    exact ⟨by simp only [readWord, hd], fun v => by simp only [writeWord, hd, State.log]⟩
  · have hd := deviceWord_eq_none hc ha (hb1 ▸ hn)
    have hr := readWord_of_none ha hd
    have hw := writeWord_of_none ha hd
    refine ⟨fun lo hi hlo hhi => ⟨wordOf hi lo, ?_, wordOf_toNat hi lo⟩, fun st h => ?_, fun lo st hlo h => ?_,
      fun v t h => ?_, fun v st h => ?_⟩
    · rw [hr, hlo, hhi]; rfl
    · rw [hr, h]; rfl
    · rw [hr, hlo, h]; rfl
    · rw [hw, lowByte_eq, highByte_eq, h]; rfl
    · rw [hw, lowByte_eq, h]; rfl
  · rw [Loc16.value, hm]; rfl
  · have hoff : (s.sp + off.setWidth 16) &&& 0xFFFE = e := even_offset_eq (by
      have := off.isLt
      rw [he, BitVec.toNat_add, BitVec.toNat_setWidth]
      omega)
    have hv : (Loc16.mem (.spOff off)).value s
        = (do let lo ← stackRead s e; let hi ← stackRead s (e + 1); .ok (wordOf hi lo)) := by
      rw [← hoff]; rfl
    refine ⟨fun hlo hhi => ⟨wordOf hi lo, ?_, wordOf_toNat hi lo⟩, fun st h => ?_⟩
    · rw [hv, hlo, hhi]; rfl
    · rw [hv, h]; rfl

/-- Settles O22: a store to storage changes the bytes stored and nothing else that a read could show. -/
theorem storeThenLoadGivesTheValue : Obligations.StoreThenLoadGivesTheValue := by
  intro s a l h1 h2 h3
  have hc := l.cfg
  have ha : IsStorage s.cfg a.toNat := ⟨h1, h2, h3⟩
  refine ⟨fun v => ?_, fun v he => ?_⟩
  · obtain ⟨t, ht, hch⟩ := writeByte_storage l ha v
    refine ⟨t, ht, readByte_stored hch ha (if_pos rfl), fun b hb => ?_⟩
    exact readByte_frame hc hch (fun x hx => if_neg (by omega)) (if_neg fun e => hb (BitVec.eq_of_toNat_eq e))
  · have hev : evenAddr a = a := evenAddr_eq (by omega)
    have hodd : (a + 1).toNat = a.toNat + 1 := by rw [← hev, oddAddr_toNat, evenAddr_toNat]
    have ha1 : IsStorage s.cfg (a + 1).toNat := by
      rw [hodd]
      exact ⟨by omega, by omega, fun ⟨hs, _, hlt⟩ => h3 ⟨hs, by omega, by omega⟩⟩
    obtain ⟨t, ht, hch⟩ := writeWord_storage l hev ha ha1 v
    have hlo : readByte t a = .ok (lowByte v) := readByte_stored hch ha (eitherByte_low _ _ v)
    have hhi : readByte t (a + 1) = .ok (highByte v) := readByte_stored hch ha1 (eitherByte_high (by omega) v)
    have hd : deviceWord t a = none := deviceWord_storage hev (hch.cfg ▸ ha)
    refine ⟨t, ht, ?_, lowByte_eq v ▸ hlo, highByte_eq v ▸ hhi, fun b hb hb1 => ?_⟩
    · rw [readWord_of_none hev hd, hlo, hhi]
      exact congrArg Except.ok (wordOf_highByte_lowByte v)
    · have hne0 : a.toNat ≠ b.toNat := fun e => hb (BitVec.eq_of_toNat_eq e.symm)
      have hne1 : (a + 1).toNat ≠ b.toNat := fun e => hb1 (BitVec.eq_of_toNat_eq e.symm)
      exact readByte_frame hc hch (fun x hx => eitherByte_other (by omega) (by omega) v) (eitherByte_other hne0 hne1 v)

end Sys2Proof.Machine
end

section
/-!
SUPPORT. The address each memory operand form denotes, as a number (31_addressing.md R137-R146).
-/

namespace Sys2Proof.Machine

open Sys2Proof.Forms

/-- A byte added to the start of a page does not leave the address space. -/
theorem pageAddr_toNat {page : Addr} (h : page.toNat ≤ 0xFFF00) (f : Byte) :
    (page + f.setWidth 20).toNat = page.toNat + f.toNat := by
  have := f.isLt
  have hf : (f.setWidth 20).toNat = f.toNat := BitVec.toNat_setWidth_of_le (by decide)
  rw [BitVec.toNat_add_of_lt (by omega), hf]

/-- Short direct addresses 20H and above lie in the page FFE00H, those below in the page FFF00H. -/
theorem saddrAddr_toNat (f : Byte) :
    (saddrAddr f).toNat = if 0x20 ≤ f.toNat then 0xFFE00 + f.toNat else 0xFFF00 + f.toNat := by
  unfold saddrAddr
  by_cases h : f.toNat < 0x20
  · rw [if_pos h, if_neg (by omega)]
    exact pageAddr_toNat (by decide) f
  · rw [if_neg h, if_pos (by omega)]
    exact pageAddr_toNat (by decide) f

theorem sfrAddr_toNat (f : Byte) : (sfrAddr f).toNat = 0xFFF00 + f.toNat := pageAddr_toNat (by decide) f

/-- The four segment bits, at bits 19-16 of an address. -/
theorem segBits_toNat (s : State) (seg : Segment) : 65536 * (segBits s seg).toNat = segBase s seg := by
  cases seg with
  | f => rfl
  | es => simp [segBits, segBase]

theorem segAddr_toNat (s : State) (seg : Segment) (w : Word) :
    (addrOf (segBits s seg) w).toNat = segBase s seg + w.toNat := by
  rw [addrOf_toNat, segBits_toNat]

/-- An operand whose address is a sum denotes the sum in its segment, or is refused (R145; D10). -/
theorem sumOperand_of_memAddr {s : State} {m : MemOp} {seg : Segment} {base off : Word}
    (h : memAddr s m = sumAddr s seg base off) : SumOperand s m seg base.toNat off.toNat := by
  unfold SumOperand
  rw [h, sumAddr]
  split_ifs with hle
  · refine ⟨_, rfl, ?_⟩
    rw [segAddr_toNat, BitVec.toNat_add_of_lt (by omega), Nat.add_assoc]
  · rfl

/-- The same for a sum with a byte, which is added as a word. -/
theorem sumOperand_of_memAddr_byte {s : State} {m : MemOp} {seg : Segment} {base : Word} {off : Byte}
    (h : memAddr s m = sumAddr s seg base (off.setWidth 16)) : SumOperand s m seg base.toNat off.toNat := by
  have hoff : (off.setWidth 16).toNat = off.toNat := BitVec.toNat_setWidth_of_le (by decide)
  exact hoff ▸ sumOperand_of_memAddr h

end Sys2Proof.Machine
end

section
/-!
SUPPORT. What a branch on a condition does, taken and not taken (49_branch_skip_control.md R360, R361).
-/

namespace Sys2Proof.Machine

theorem branchIf_false (d : Byte) (s : State) : branchIf false d s = .ok s := rfl

theorem branchIf_true {s : State} {d : Byte} (h : BranchAllowed s d.toInt) :
    branchIf true d s = .ok (jump s (relTarget s d.toInt)) :=
  jumpRelative_spec h

end Sys2Proof.Machine
end

section
/-!
PROOFS. The statements of the family 31_addressing.md: the address of each memory operand, the conditional branches.
-/

namespace Sys2Proof.Machine

open Sys2Proof.Forms

/-- Settles O18, form by form; the based and indexed forms are sums. -/
theorem operandsDenoteTheirAddresses : Obligations.OperandsDenoteTheirAddresses := by
  intro s
  refine ⟨?saddr, ?sfr, ?abs, ?indirect, ?based, ?indexed, ?wordReg, ?wordBc, ?spOff⟩
  case saddr => exact fun f => ⟨_, rfl, saddrAddr_toNat f⟩
  case sfr => exact fun f => ⟨_, rfl, sfrAddr_toNat f⟩
  case abs => exact fun seg w => ⟨_, rfl, segAddr_toNat s seg w⟩
  case indirect => exact fun seg p => ⟨_, rfl, segAddr_toNat s seg (s.pair p)⟩
  case based => exact fun seg p off => sumOperand_of_memAddr_byte rfl
  case indexed => exact fun seg r => sumOperand_of_memAddr_byte rfl
  case wordReg => exact fun seg w r => sumOperand_of_memAddr_byte rfl
  case wordBc => exact fun seg w => sumOperand_of_memAddr rfl
  case spOff => exact fun off => ⟨_, rfl, by simp⟩

/-- Settles O54: not taken, the branch leaves the state as it is; taken, it is a jump and nothing else. -/
theorem conditionalBranchesTestFlags : Obligations.ConditionalBranchesTestFlags := by
  refine ⟨fun d => ⟨rfl, rfl, rfl, rfl, rfl, rfl⟩, fun s i c d l hi => ⟨fun hc => ?notTaken, fun hc ha => ?taken⟩⟩
  case notTaken =>
    refine ⟨s, ?_, Changes.refl s, ⟨rfl, rfl⟩, ⟨rfl, rfl⟩⟩
    rw [hi.exec_eq, hc, branchIf_false, finish]
  case taken =>
    obtain ⟨hch, hj, hq, -⟩ := jump_changes l (relTarget s d.toInt)
    refine ⟨_, ?_, hch, hj, hq⟩
    rw [hi.exec_eq, hc, branchIf_true ha, finish]

end Sys2Proof.Machine
end

section
/-!
SUPPORT. One change after another, a store to an operand whose address was resolved before, and what the transfers do to
the state when their operands can be read and written (31_addressing.md R148; 40_transfer8.md R172, R174).
-/

namespace Sys2Proof.Machine

/-- One result, then another from the state it gave. -/
theorem Gives.trans {r : Result} {s t : State} {c d : Nat → Option Byte} {k l : CpuSfr → Option Byte}
    {e f : List DevEvent} (h : Gives (.ok t) s c k e) (g : Gives r t d l f) :
    Gives r s (fun x => (d x).or (c x)) (fun q => (l q).or (k q)) (e ++ f) := by
  obtain ⟨_, ⟨⟩, hc, ⟨hpc, hqueue⟩, ⟨hinhibit, hdiv⟩, -⟩ := h
  obtain ⟨u, hu, gc, ⟨gpc, gqueue⟩, ⟨ginhibit, gdiv⟩, gl⟩ := g
  exact ⟨u, hu, hc.trans gc, ⟨gpc.trans hpc, gqueue.trans hqueue⟩, ⟨ginhibit.trans hinhibit, gdiv.trans hdiv⟩, gl⟩

/-- A result with interrupts held completes the instruction and opens the window (10_state.md R36). -/
theorem Gives.completesInhibiting {i : Instr} {r : Result} {s : State} {c : Nat → Option Byte}
    {k : CpuSfr → Option Byte} {e : List DevEvent} (h : Gives r s c k e) (he : exec i s = finish (holding r)) :
    CompletesInhibiting i s c k e := by
  obtain ⟨t, rfl, hc, ⟨hpc, hqueue⟩, ⟨-, hdiv⟩, -⟩ := h
  obtain ⟨gc, ⟨gpc, gqueue⟩, ginhibit, gdiv⟩ := holdInterrupts_changes t
  exact ⟨holdInterrupts t, he, (hc.trans gc).congr (fun _ => rfl) (fun _ => rfl) (List.append_nil e),
    ⟨gpc.trans hpc, gqueue.trans hqueue⟩, ginhibit, gdiv.trans hdiv⟩

/-! ## Operands of a later state (31_addressing.md R148) -/

@[simp] theorem State.rbs_setReg (s : State) (r : Reg) (v : Byte) : (s.setReg r v).rbs = s.rbs := by
  simp [State.setReg]

@[simp] theorem State.rbs_setPair (s : State) (p : RegPair) (v : Word) : (s.setPair p v).rbs = s.rbs := by
  simp [State.setPair]

theorem State.Legal.setReg {s : State} (h : s.Legal) (r : Reg) (v : Byte) : (s.setReg r v).Legal := h.withBank _ _

theorem State.Legal.setPair {s : State} (h : s.Legal) (p : RegPair) (v : Word) : (s.setPair p v).Legal :=
  (h.setReg _ _).setReg _ _

/-- Writing a register moves no data address. -/
@[simp] theorem place_setReg (s : State) (r : Reg) (v : Byte) (a : Addr) : place (s.setReg r v) a = place s a :=
  place_congr (by simp) (by simp) (by simp) a

/-- Reading an address leaves what reading the operand leaves. -/
theorem touchedByte_eq {s : State} {m : MemOp} {ea : Ea} (hm : memAddr s m = .ok ea) :
    touchedByte s ea = s.logAll (readEvents8 s (.mem m)) := by
  have := Loc8.touched_eq s (.mem m)
  rwa [Loc8.touched, hm] at this

/-- A store at the address an operand had at the start, from a later state that resolves addresses as the first did. -/
theorem storeByte_spec {s t : State} (h : t.Legal) (hcfg : t.cfg = s.cfg) (hp : ∀ a, place t a = place s a) {v : Byte}
    {m : MemOp} {ea : Ea} (hm : memAddr s m = .ok ea) (hw : Writable8 s v (.mem m)) :
    Gives (storeByte t v ea) t (stored8 s v (.mem m)) (storedCpu8 s v (.mem m)) (writeEvents8 s v (.mem m)) := by
  unfold stored8 storedCpu8 writeEvents8
  simp only [Writable8, hm] at hw ⊢
  cases ea with
  | data a =>
    have hwritable : ByteWritable t v a := by simpa only [ByteWritable, hp, hcfg] using hw
    have hcell : byteCell t a = byteCell s a := by simp only [byteCell, hp]
    have hcpu : byteCpu t a = byteCpu s a := by simp only [byteCpu, hp]
    have hevent : byteEvent t a (fun n => .write8 n v) = byteEvent s a (fun n => .write8 n v) := by
      simp only [byteEvent, hp]
    have k := writeByte_spec h hwritable
    rw [hcell, hcpu, hevent, hcfg] at k
    exact k
  | stack off =>
    have k := stackWrite_spec h v (hcfg ▸ hw : StackUsable t.cfg off)
    rw [hcfg] at k
    exact k

/-! ## Moves to PSW -/

theorem place_psw (s : State) : place s (sfrAddr pswSfr) = .cpu .psw := place_cpu (r := .psw) rfl nofun

/-- A store to PSW writes the bits that the core has, and nothing else. -/
theorem store_psw (s : State) (v : Byte) :
    Writable8 s v (.mem opPsw) ∧ (∀ x, stored8 s v (.mem opPsw) x = none)
      ∧ (∀ r, storedCpu8 s v (.mem opPsw) r
          = if r = .psw then some (if s.cfg.core = .s1 then v &&& 0xD7 else v) else none)
      ∧ writeEvents8 s v (.mem opPsw) = [] := by
  have hm : memAddr s opPsw = .ok (.data (sfrAddr pswSfr)) := rfl
  refine ⟨?_, fun x => ?_, fun r => ?_, ?_⟩
  · simp only [Writable8, hm, ByteWritable, place_psw]
    simp
  · simp [stored8, hm, byteCell, place_psw]
  · simp only [storedCpu8, hm, byteCpu, place_psw, Option.some.injEq, eq_comm (a := CpuSfr.psw)]
    by_cases hr : r = .psw
    · simp only [hr, if_true, implemented]
    · simp only [hr, if_false]
  · simp only [writeEvents8, hm, byteEvent, place_psw]

/-! ## Exchanges -/

/-- Where at most one of two changes gives a byte a value, their order does not matter. -/
theorem or_comm_of_none {α : Type} {c d : Option α} (h : c = none ∨ d = none) : c.or d = d.or c := by
  obtain rfl | rfl := h <;> simp

/-- The storage bytes of two different registers are different. -/
theorem stored8_reg_disjoint (s : State) {r q : Reg} (h : r ≠ q) (v w : Byte) (x : Nat) :
    stored8 s v (.reg r) x = none ∨ stored8 s w (.reg q) x = none := by
  by_cases hx : x = regAddr s.rbs r
  · right
    exact if_neg fun hq => h (regAddr_inj (hx.symm.trans hq)).2
  · exact .inl (if_neg hx)

/-- Two different pairs have no register in common. -/
theorem RegPair.registers_disjoint {p q : RegPair} (h : p ≠ q) :
    p.low ≠ q.low ∧ p.low ≠ q.high ∧ p.high ≠ q.low ∧ p.high ≠ q.high := by
  revert h
  cases p <;> cases q <;> decide

/-- A pair written is its low register and its high register written. -/
theorem stored16_pair_eq (s : State) (v : Word) (p : RegPair) (x : Nat) :
    stored16 s v (.pair p) x = (stored8 s (lowByte v) (.reg p.low) x).or (stored8 s (highByte v) (.reg p.high) x) := by
  simp only [stored16, eitherByte, stored8, Option.some.injEq, eq_comm (b := x)]
  split <;> simp

/-- The storage bytes of two different pairs are different. -/
theorem stored16_pair_disjoint (s : State) {p q : RegPair} (h : p ≠ q) (v w : Word) (x : Nat) :
    stored16 s v (.pair p) x = none ∨ stored16 s w (.pair q) x = none := by
  obtain ⟨hll, hlh, hhl, hhh⟩ := RegPair.registers_disjoint h
  have ll := stored8_reg_disjoint s hll (lowByte v) (lowByte w) x
  have lh := stored8_reg_disjoint s hlh (lowByte v) (highByte w) x
  have hl := stored8_reg_disjoint s hhl (highByte v) (lowByte w) x
  have hh := stored8_reg_disjoint s hhh (highByte v) (highByte w) x
  simp only [stored16_pair_eq, Option.or_eq_none_iff]
  tauto

/-- XCH with a register: both values are read before either register is written. -/
theorem exchangeReg_spec {s : State} (h : s.Legal) (r : Reg) :
    Gives (exchangeReg r s) s
      (fun x => (stored8 s (s.reg r) (.reg .a) x).or (stored8 s (s.reg .a) (.reg r) x)) unchanged [] := by
  have k := (setReg_after h .a (s.reg r)).trans (setReg_after (h.setReg .a (s.reg r)) r (s.reg .a))
  refine k.congr (fun x => ?_) (fun _ => rfl) rfl
  have hs : stored8 (s.setReg .a (s.reg r)) (s.reg .a) (.reg r) x = stored8 s (s.reg .a) (.reg r) x := by
    simp only [stored8, State.rbs_setReg]
  rw [hs]
  by_cases hr : r = .a
  · rw [hr]
  · exact or_comm_of_none (stored8_reg_disjoint s hr _ _ x)

/-- XCHW: both words are read before either pair is written. -/
theorem exchangePair_spec {s : State} (h : s.Legal) {p : RegPair} (hp : p ≠ .ax) :
    Gives (exchangePair p s) s
      (fun x => (stored16 s (s.pair p) (.pair .ax) x).or (stored16 s (s.pair .ax) (.pair p) x)) unchanged [] := by
  have hax : Gives (.ok (s.setPair .ax (s.pair p))) s (stored16 s (s.pair p) (.pair .ax)) unchanged [] :=
    ⟨_, rfl, setPair_changes h .ax (s.pair p)⟩
  have k := hax.trans ⟨_, rfl, setPair_changes (h.setPair .ax (s.pair p)) p (s.pair .ax)⟩
  refine k.congr (fun x => ?_) (fun _ => rfl) rfl
  have hs : stored16 (s.setPair .ax (s.pair p)) (s.pair .ax) (.pair p) x = stored16 s (s.pair .ax) (.pair p) x := by
    simp only [stored16, State.rbs_setPair]
  rw [hs]
  exact or_comm_of_none (stored16_pair_disjoint s hp _ _ x)

/-- XCH with memory: the byte read, A written, then the byte written at the address it was read from. -/
theorem exchangeMem_spec {s : State} (h : s.Legal) {m : MemOp} {v : Byte} (hv : (Loc8.mem m).value s = .ok v)
    (hw : Writable8 s (s.reg .a) (.mem m)) :
    Gives (exchangeMem m s) s
      (fun x => (stored8 s (s.reg .a) (.mem m) x).or (stored8 s v (.reg .a) x)) (storedCpu8 s (s.reg .a) (.mem m))
      (readEvents8 s (.mem m) ++ writeEvents8 s (s.reg .a) (.mem m)) := by
  cases hm : memAddr s m with
  | error e => simp only [Writable8, hm] at hw
  | ok ea =>
    have hv' : loadByte s ea = .ok v := by rwa [Loc8.value, hm] at hv
    have hx : exchangeMem m s
        = storeByte ((s.logAll (readEvents8 s (.mem m))).setReg .a v) (s.reg .a) ea := by
      rw [← touchedByte_eq hm, exchangeMem, hm]
      show (loadByte s ea >>= _) = _
      rw [hv']
      rfl
    have hread : Gives (.ok (s.logAll (readEvents8 s (.mem m)))) s unchanged unchanged (readEvents8 s (.mem m)) :=
      ⟨_, rfl, Changes.logAll s _, ⟨rfl, rfl⟩, ⟨rfl, rfl⟩, h.logAll _⟩
    have hl := h.logAll (readEvents8 s (.mem m))
    have hstore := storeByte_spec (s := s) (hl.setReg .a v) (State.setReg_cfg _ _ _)
      (fun a => (place_setReg _ _ _ a).trans (place_logAll s _ a)) hm hw
    rw [hx]
    refine (hread.trans ((setReg_after hl .a v).trans hstore)).congr (fun x => ?_) (fun q => ?_) rfl
    · exact Option.or_none
    · simp only [unchanged, Option.or_none]

end Sys2Proof.Machine
end

section
/-!
PROOFS. The statements of the family 40_transfer8.md: MOV, ONEB, CLRB, XCH, XCHW and MOVS.
-/

namespace Sys2Proof.Machine

open Sys2Proof.Forms

/-- Settles O24: every row is a move of its source to its destination. -/
theorem moveStoresTheSourceByte : Obligations.MoveStoresTheSourceByte := by
  intro s i dst src v l hi hv hw
  exact (move8_spec l hv hw).completes (hi.exec_eq s)

/-- Settles O25: a move whose destination is PSW, with interrupts then held. Neither source is a device. -/
theorem moveToPswWritesAllFlags : Obligations.MoveToPswWritesAllFlags := by
  intro s i src v l hi hv
  obtain ⟨hw, hcells, hctl, hwrite⟩ := store_psw s v
  have hread : sourceEvents8 s src = [] := by cases hi <;> rfl
  have hmove := (move8_spec l hv hw).congr hcells hctl (f := []) (by rw [hread, hwrite]; rfl)
  exact hmove.completesInhibiting (hi.exec_eq s)

/-- Settles O26: every row exchanges A with the byte at its operand's address. -/
theorem exchangeSwapsAWithMemory : Obligations.ExchangeSwapsAWithMemory := by
  intro s i m v l hi hv hw
  exact (exchangeMem_spec l hv hw).completes (hi.exec_eq s)

/-- Settles O27: two registers or two pairs of one bank, each written with the other's value. -/
theorem exchangeSwapsRegisters : Obligations.ExchangeSwapsRegisters := by
  intro s l
  refine ⟨fun i r hi => ?reg, fun rp hrp => ?pair⟩
  case reg => exact (exchangeReg_spec l r).completes (hi.exec_eq s)
  case pair => exact (exchangePair_spec l hrp).completes rfl

/-- Settles O28: X stored, then Z and CY set from A and X as they were. -/
theorem moveStringStoresXAndSetsFlags : Obligations.MoveStringStoresXAndSetsFlags := by
  intro s i m l hi hw
  have hcy : (s.reg .a == 0 || s.reg .x == 0) = decide (s.reg .a = 0 ∨ s.reg .x = 0) :=
    (Bool.decide_or _ _).symm
  rw [← hcy]
  exact (moveString_spec l hw).completes (hi.exec_eq s)

end Sys2Proof.Machine
end

section
/-!
PROOFS. The statement of the family 41_transfer16.md: MOVW, ONEW and CLRW, SP as an operand among them.
-/

namespace Sys2Proof.Machine

open Sys2Proof.Forms

/-- Settles O29: every row is a move of its source to its destination; a row that names SP is the move to or from SP's
SFR address, where the write drops bit 0. -/
theorem moveStoresTheSourceWord : Obligations.MoveStoresTheSourceWord := by
  intro s i dst src v l hi hv hw
  exact (move16_spec l hv hw).completes (hi.exec_eq s)

end Sys2Proof.Machine
end

section
/-!
SUPPORT. The 8-bit result and flags of the ALU in the numbers of 42_alu8.md R220: `add8`, `sub8`, and the flags of CMP0
and CMPS, which are differences.
-/

namespace Sys2Proof.Machine

/-- CY enters ADDC and SUBC as the number 0 or 1. -/
theorem bitVal_and_cy (carry : Bool) (s : State) :
    bitVal (carry && s.cy) = if carry ∧ s.psw.cy then 1 else 0 := by
  simp [bitVal, State.cy]

theorem add8_eq {a b : Byte} {cin : Bool} {c n : Nat} (hc : bitVal cin = c) (hn : n = a.toNat + b.toNat + c) :
    add8 a b cin = { res := BitVec.ofNat 8 n, flags :=
      { z := decide (n % 256 = 0), ac := decide (16 ≤ a.toNat % 16 + b.toNat % 16 + c), cy := decide (256 ≤ n) } } := by
  subst hc hn
  rfl

/-- `sub8` computes on integers; a byte `r` with the value of the difference modulo 256 is its result. -/
theorem sub8_eq {a b r : Byte} {cin : Bool} {c : Nat} (hc : bitVal cin = c)
    (hr : r.toNat = (a.toNat + 256 - (b.toNat + c)) % 256) :
    sub8 a b cin = { res := r, flags :=
      { z := decide (r = 0), ac := decide (a.toNat % 16 < b.toNat % 16 + c), cy := decide (a.toNat < b.toNat + c) } } := by
  have hcin : c ≤ 1 := by
    subst hc
    cases cin <;> decide
  have hb := b.isLt
  have hd : ((a.toNat : Int) - b.toNat - c) % 256 = r.toNat := by omega
  have hres : BitVec.ofInt 8 ((a.toNat : Int) - b.toNat - c) = r := by
    apply BitVec.eq_of_toNat_eq
    rw [BitVec.toNat_ofInt]
    omega
  have hz : r = 0 ↔ ((a.toNat : Int) - b.toNat - c) % 256 = 0 := by
    rw [hd, ← BitVec.toNat_inj]
    simp
  have hac : a.toNat % 16 < b.toNat % 16 + c
      ↔ ((a.toNat % 16 : Nat) : Int) - ((b.toNat % 16 : Nat) : Int) - c < 0 := by omega
  have hcy : a.toNat < b.toNat + c ↔ (a.toNat : Int) - b.toNat - c < 0 := by omega
  simp only [sub8, hc, hres, decide_eq_decide.2 hz, decide_eq_decide.2 hac, decide_eq_decide.2 hcy]
  rfl

/-- Without a borrow in, the flags compare the operands: equal, below in the low four bits, below (R220, R228). -/
theorem sub8_false (a b : Byte) :
    sub8 a b false = { res := a - b, flags :=
      { z := decide (a = b), ac := decide (a.toNat % 16 < b.toNat % 16), cy := decide (a.toNat < b.toNat) } } := by
  have hr : (a - b).toNat = (a.toNat + 256 - (b.toNat + 0)) % 256 := by
    have := b.isLt
    rw [BitVec.toNat_sub]
    omega
  have hz : a - b = 0 ↔ a = b := sub_eq_zero
  rw [sub8_eq (c := 0) rfl hr, decide_eq_decide.2 hz]
  rfl

/-- CMPS: Z and AC of `x - m`; CY is no borrow (R230). -/
theorem cmpsFlags_eq (a x m : Byte) :
    cmpsFlags a x m = { z := decide (x = m), ac := decide (x.toNat % 16 < m.toNat % 16)
                        cy := decide (x ≠ m ∨ a = 0 ∨ x = 0) } := by
  have hz : (x - m == 0) = decide (x = m) := decide_eq_decide.2 sub_eq_zero
  simp only [cmpsFlags, sub8_false, bne, hz, Bool.decide_or, decide_not, Bool.or_assoc]
  rfl

end Sys2Proof.Machine
end

section
/-!
PROOFS. The statements of the family 42_alu8.md: ADD, ADDC, SUB, SUBC, AND, OR, XOR, CMP, CMP0 and CMPS.
-/

namespace Sys2Proof.Machine

open Sys2Proof.Forms

/-- Settles O30: every row stores and flags what `add8` answers. -/
theorem additionGivesSumAndFlags : Obligations.AdditionGivesSumAndFlags := by
  intro s i carry dst src a b c n r l hi ha hb hc hn hr hw
  have halu := add8_eq ((bitVal_and_cy carry s).trans hc.symm) hn
  rw [← hr] at halu
  have k := arith8_spec l (f := fun a b => add8 a b (carry && s.cy)) ha hb
  simp only [halu] at k
  exact (k hw).completes (hi.exec_eq s)

/-- Settles O31: every row stores and flags what `sub8` answers. -/
theorem subtractionGivesDifferenceAndFlags : Obligations.SubtractionGivesDifferenceAndFlags := by
  intro s i carry dst src a b c r l hi ha hb hc hr hw
  have halu := sub8_eq ((bitVal_and_cy carry s).trans hc.symm) hr
  have k := arith8_spec l (f := fun a b => sub8 a b (carry && s.cy)) ha hb
  simp only [halu] at k
  exact (k hw).completes (hi.exec_eq s)

/-- Settles O32: every row stores its bitwise result and sets Z from it. -/
theorem logicGivesResultAndZ : Obligations.LogicGivesResultAndZ := by
  intro s i f dst src a b l hi ha hb hw
  exact (logic8_spec l ha hb hw).completes (hi.exec_eq s)

/-- Settles O33: CMP sets the flags of a difference, CMP0 those of its operand; neither writes an operand. -/
theorem compareSetsFlagsOnly : Obligations.CompareSetsFlagsOnly := by
  intro s i dst a l ha
  refine ⟨fun src b hi hb => ?compare, fun hi => ?compareZero⟩
  case compare =>
    have k := compare8_spec l ha hb
    rw [sub8_false] at k
    exact k.completes (hi.exec_eq s)
  case compareZero => exact (compareZero_spec l ha).completes (hi.exec_eq s)

/-- Settles O34: the flags of CMPS, and nothing written. -/
theorem compareStringSetsFlagsOnly : Obligations.CompareStringSetsFlagsOnly := by
  intro s i m v l hi hv
  have k := compareString_spec l hv
  rw [cmpsFlags_eq] at k
  exact k.completes (hi.exec_eq s)

end Sys2Proof.Machine
end

section
/-!
SUPPORT. The 16-bit result and flags of the ALU in the numbers of 43_alu16.md R250: `add16` and `sub16`.
-/

namespace Sys2Proof.Machine

theorem add16_eq (v w : Word) :
    add16 v w = { res := BitVec.ofNat 16 (v.toNat + w.toNat), z := decide ((v.toNat + w.toNat) % 65536 = 0)
                  cy := decide (65536 ≤ v.toNat + w.toNat) } := rfl

/-- `sub16` computes on integers; adding 65536 keeps the difference a natural number. -/
theorem sub16_eq (v w : Word) :
    sub16 v w = { res := BitVec.ofNat 16 (v.toNat + 65536 - w.toNat), z := decide (v.toNat = w.toNat)
                  cy := decide (v.toNat < w.toNat) } := by
  have hv := v.isLt
  have hw := w.isLt
  have hres : BitVec.ofInt 16 ((v.toNat : Int) - w.toNat) = BitVec.ofNat 16 (v.toNat + 65536 - w.toNat) := by
    apply BitVec.eq_of_toNat_eq
    rw [BitVec.toNat_ofInt, BitVec.toNat_ofNat]
    omega
  have hz : v.toNat = w.toNat ↔ ((v.toNat : Int) - w.toNat) % 65536 = 0 := by omega
  have hcy : v.toNat < w.toNat ↔ (v.toNat : Int) - w.toNat < 0 := by omega
  simp only [sub16, hres, decide_eq_decide.2 hz, decide_eq_decide.2 hcy]
  rfl

end Sys2Proof.Machine
end

section
/-!
PROOFS. The statement of the family 43_alu16.md: ADDW, SUBW and CMPW with AX.
-/

namespace Sys2Proof.Machine

open Sys2Proof.Forms

/-- Settles O35: every row stores and flags what `add16` or `sub16` answers, CMPW only flags; the witness for AC is the
model's free bit (D12). -/
theorem wordArithmeticGivesResultAndFlags : Obligations.WordArithmeticGivesResultAndFlags := by
  rintro s i src _ _ w l hw rfl rfl
  refine ⟨fun hi => ⟨s.freeBit .auxCarry, ?add⟩, fun hi => ⟨s.freeBit .auxCarry, ?sub⟩,
    fun hi => ⟨s.freeBit .auxCarry, ?compare⟩⟩
  case add =>
    have k := arith16_spec l (f := add16) hw
    rw [add16_eq] at k
    exact k.completes (hi.exec_eq s)
  case sub =>
    have k := arith16_spec l (f := sub16) hw
    rw [sub16_eq] at k
    exact k.completes (hi.exec_eq s)
  case compare =>
    have k := compare16_spec l hw
    rw [sub16_eq] at k
    exact k.completes (hi.exec_eq s)

end Sys2Proof.Machine
end

section
/-!
SUPPORT. What the operations of 44_muldiv.md do to the state: a double word written to two pairs, one destination after
another, the mark of an unprotected division, MACR; and the double words in numbers.
-/

namespace Sys2Proof.Machine

open Sys2Proof.Forms

theorem onS3_eq {s : State} (hs : s.cfg.core = .s3) (r : State) : onS3 s r = .ok r := if_pos hs

/-! ## Double words -/

theorem lowWord_ofNat (n : Nat) : lowWord (BitVec.ofNat 32 n) = BitVec.ofNat 16 n := by
  apply BitVec.eq_of_toNat_eq
  simp [lowWord]

theorem highWord_ofNat (n : Nat) : highWord (BitVec.ofNat 32 n) = BitVec.ofNat 16 (n / 65536) := by
  apply BitVec.eq_of_toNat_eq
  simp only [highWord, BitVec.extractLsb'_toNat, BitVec.toNat_ofNat, Nat.shiftRight_eq_div_pow]
  omega

theorem pairs_toNat (s : State) (hi lo : RegPair) :
    (s.pairs hi lo).toNat = (s.pair hi).toNat * 65536 + (s.pair lo).toNat := by
  simp only [State.pairs, dwordOf, BitVec.toNat_append]
  rw [← Nat.shiftLeft_add_eq_or_of_lt (s.pair lo).isLt, Nat.shiftLeft_eq]

/-- The double word of an integer is that of the integer modulo 2^32. -/
theorem ofInt_eq_ofNat {p : Nat} {z : Int} (h : (p : Int) = z % 2 ^ 32) : BitVec.ofInt 32 z = BitVec.ofNat 32 p := by
  apply BitVec.eq_of_toNat_eq
  rw [BitVec.toNat_ofInt, BitVec.toNat_ofNat]
  omega

/-! ## Pairs written one after another -/

theorem setPair_spec {s : State} (h : s.Legal) (p : RegPair) (v : Word) :
    Gives (.ok (s.setPair p v)) s (stored16 s v (.pair p)) unchanged [] :=
  ⟨_, rfl, setPair_changes h p v⟩

/-- Writing a pair leaves the bank, so the bytes of every pair stay where they are. -/
theorem stored16_setPair (s : State) (q : RegPair) (w v : Word) (p : RegPair) :
    stored16 (s.setPair q w) v (.pair p) = stored16 s v (.pair p) := by
  funext x
  simp only [stored16, State.rbs_setPair]

theorem setPair_setPair_spec {s : State} (h : s.Legal) (q p : RegPair) (w v : Word) :
    Gives (.ok ((s.setPair q w).setPair p v)) s
      (fun x => (stored16 s v (.pair p) x).or (stored16 s w (.pair q) x)) unchanged [] :=
  stored16_setPair s q w v p ▸ (setPair_spec h q w).trans (setPair_spec (h.setPair q w) p v)

/-- `setPairs` writes the high pair first; the pairs are different, so the order does not matter. -/
theorem setPairs_spec {s : State} (h : s.Legal) {hi lo : RegPair} (hne : hi ≠ lo) (n : Nat) :
    Gives (.ok (s.setPairs hi lo (BitVec.ofNat 32 n))) s (stored32 s n hi lo) unchanged [] := by
  rw [State.setPairs, lowWord_ofNat, highWord_ofNat]
  exact (setPair_setPair_spec h hi lo _ _).congr
    (fun x => (or_comm_of_none (stored16_pair_disjoint s hne _ _ x)).symm) (fun _ => rfl) rfl

theorem State.Legal.setPairs {s : State} (h : s.Legal) (hi lo : RegPair) (v : DWord) : (s.setPairs hi lo v).Legal :=
  (h.setPair _ _).setPair _ _

theorem stored32_setPairs (s : State) (hi lo : RegPair) (v : DWord) (n : Nat) (hi' lo' : RegPair) :
    stored32 (s.setPairs hi lo v) n hi' lo' = stored32 s n hi' lo' := by
  funext x
  simp only [stored32, State.setPairs, stored16_setPair]

theorem setPairs_setPairs_spec {s : State} (h : s.Legal) {hi lo hi' lo' : RegPair} (hne : hi ≠ lo) (hne' : hi' ≠ lo')
    (m n : Nat) :
    Gives (.ok ((s.setPairs hi lo (BitVec.ofNat 32 m)).setPairs hi' lo' (BitVec.ofNat 32 n))) s
      (fun x => (stored32 s n hi' lo' x).or (stored32 s m hi lo x)) unchanged [] :=
  stored32_setPairs s hi lo (BitVec.ofNat 32 m) n hi' lo' ▸
    (setPairs_spec h hne m).trans (setPairs_spec (h.setPairs hi lo _) hne' n)

/-! ## Division -/

/-- DIVHU writes the remainder, then the quotient, then marks the division (R264). -/
theorem execDivhu_eq (s : State) (a d : Nat) (ha : a = (s.pair .ax).toNat) (hd : d = (s.pair .de).toNat) :
    execDivhu s = finish (onS3 s (markDivision
      ((s.setPair .de (if d = 0 then BitVec.ofNat 16 a else BitVec.ofNat 16 (a % d))).setPair .ax
        (if d = 0 then 0xFFFF else BitVec.ofNat 16 (a / d))))) := by
  have hz : s.pair .de = 0 ↔ d = 0 := by
    rw [hd, ← BitVec.toNat_inj]
    simp
  by_cases h : d = 0
  · simp only [execDivhu, hz, h, if_true, ha, BitVec.ofNat_toNat, BitVec.setWidth_eq]
  · simp only [execDivhu, hz, h, if_false, ← ha, ← hd, BitVec.udiv_def, BitVec.umod_def]

/-- DIVWU writes the remainder, then the quotient, then marks the division (R265). -/
theorem execDivwu_eq (s : State) (n d : Nat) (hn : n = (s.pair .bc).toNat * 65536 + (s.pair .ax).toNat)
    (hd : d = (s.pair .hl).toNat * 65536 + (s.pair .de).toNat) :
    execDivwu s = finish (onS3 s (markDivision
      ((s.setPairs .hl .de (BitVec.ofNat 32 (if d = 0 then n else n % d))).setPairs .bc .ax
        (BitVec.ofNat 32 (if d = 0 then 0xFFFFFFFF else n / d))))) := by
  rw [← pairs_toNat] at hn hd
  have hz : s.pairs .hl .de = 0 ↔ d = 0 := by
    rw [hd, ← BitVec.toNat_inj]
    simp
  by_cases h : d = 0
  · simp only [execDivwu, hz, h, if_true, hn, BitVec.ofNat_toNat, BitVec.setWidth_eq]
    rfl
  · simp only [execDivwu, hz, h, if_false, ← hn, ← hd, BitVec.udiv_def, BitVec.umod_def]

theorem followedByNop_eq_false_iff {s : State} (h : s.cfg.wf = true) : followedByNop s = false ↔ ¬ NopFollows s := by
  rw [← Bool.not_eq_true, followedByNop_iff, fetchable_iff h, NopFollows]

theorem markDivision_changes (s : State) : Changes s (markDivision s) unchanged unchanged [] :=
  ⟨fun a => cell_congr rfl (fun n => by cases n <;> rfl) a, fun q => by cases q <;> rfl, (List.append_nil _).symm,
    rfl, rfl, rfl, rfl, rfl, rfl⟩

/-- A division that left memory alone is marked by what PSW, PC and memory were before it (R268; D33; log 15). -/
theorem Gives.completesDivision {i : Instr} {s r : State} {c : Nat → Option Byte} (l : s.Legal) (hs : s.cfg.core = .s3)
    (h : Gives (.ok r) s c unchanged []) (hm : r.mem = s.mem)
    (he : exec i s = finish (onS3 s (markDivision r))) :
    ∃ t, exec i s = .next t ∧ Changes s t c unchanged [] ∧ Follows s t ∧ t.inhibit = s.inhibit
      ∧ (t.divHazard = true ↔ s.psw.ie = true ∧ (inRam s.cfg (s.pc - 1).toNat = true ∨ ¬ NopFollows s)) := by
  obtain ⟨_, ⟨⟩, hc, ⟨hpc, hqueue⟩, ⟨hinhibit, -⟩, -⟩ := h
  have hpsw : r.psw = s.psw := hc.psw_eq
  have hnop : NopFollows r ↔ NopFollows s := by simp only [NopFollows, hpc, hm, hc.cfg]
  have hwf : r.cfg.wf = true := hc.cfg ▸ l.cfg
  refine ⟨markDivision r, ?_, ?_, ⟨hpc, hqueue⟩, hinhibit, ?_⟩
  · rw [he, onS3_eq hs, finish]
  · exact (hc.trans (markDivision_changes r)).congr (fun _ => rfl) (fun _ => rfl) rfl
  · rw [markDivision_divHazard_iff, followedByNop_eq_false_iff hwf, hnop, hpsw, hpc, hc.cfg]

/-! ## Multiply-accumulate -/

/-- MACR, AC and CY written. -/
theorem setMac_spec {s : State} (h : s.Legal) (m : DWord) (ac cy : Bool) :
    Gives (.ok (({ s with macr := m }.setAc ac).setCy cy)) s unchanged
      (macrAndPsw m { s.psw with ac := ac, cy := cy }) [] := by
  have hm : Gives (.ok { s with macr := m }) s unchanged
      (fun q => if q = .psw then none else macrAndPsw m s.psw q) [] := by
    refine ⟨_, rfl, ⟨fun a => ?_, fun q => ?_, (List.append_nil _).symm, rfl, rfl, rfl, rfl, rfl, rfl⟩,
      ⟨rfl, rfl⟩, ⟨rfl, rfl⟩, { h with }⟩
    · exact cell_congr rfl (fun n => by cases n <;> rfl) a
    · cases q with
      | macr k => exact readCpu_macr _ k
      | _ => rfl
  refine (hm.thenPsw (fun p => { p with ac := ac, cy := cy }) fun _ => ⟨rfl, rfl⟩).congr
    (fun _ => rfl) (fun q => ?_) rfl
  cases q <;> rfl

theorem macSigned_eq {m : DWord} {a b : Word} {z : Int} (hz : z = m.toInt + a.toInt * b.toInt) :
    macSigned m a b = (BitVec.ofInt 32 z, decide (0x7FFFFFFF < z ∨ z < -0x80000000)) := by
  simp only [macSigned, hz, Bool.decide_or]

/-- The sign bit, which AC takes after MACH. -/
theorem getLsbD_31_eq_decide_neg (m : DWord) : m.getLsbD 31 = decide (m.toInt < 0) := by
  rw [← BitVec.msb_eq_toInt, BitVec.msb_eq_getLsbD_last]

end Sys2Proof.Machine
end

section
/-!
PROOFS. The statements of the family 44_muldiv.md: MULU, MULHU, MULH, DIVHU, DIVWU, MACHU and MACH.
-/

namespace Sys2Proof.Machine

open Sys2Proof.Forms

/-- Settles O36: each row writes its product to one pair or to two. -/
theorem multiplicationGivesTheProduct : Obligations.MultiplicationGivesTheProduct := by
  refine ⟨rfl, rfl, rfl, fun s l => ⟨?mulu, fun hs => ⟨?mulhu, fun p hp => ?mulh⟩⟩⟩
  case mulu => exact (setPair_spec l .ax _).completes rfl
  case mulhu => exact (setPairs_spec l (by decide) _).completes (congrArg finish (onS3_eq hs _))
  case mulh =>
    have k := setPairs_spec l (hi := .bc) (lo := .ax) (by decide) p
    rw [← ofInt_eq_ofNat hp] at k
    exact k.completes (congrArg finish (onS3_eq hs _))

/-- Settles O37: each row writes the remainder, then the quotient, and marks the division if it is unprotected. -/
theorem divisionGivesQuotientAndRemainder : Obligations.DivisionGivesQuotientAndRemainder := by
  intro s ax de n d l hs hax hde hn hd
  rw [hax] at hn
  rw [hde] at hd
  refine ⟨?divhu, ?divwu⟩
  case divhu =>
    exact (setPair_setPair_spec l .de .ax _ _).completesDivision l hs (by simp) (execDivhu_eq s ax de hax hde)
  case divwu =>
    exact (setPairs_setPairs_spec l (by decide) (by decide) _ _).completesDivision l hs (by simp)
      (execDivwu_eq s n d hn hd)

/-- Settles O38: each row writes MACR, AC and CY from its exact sum. -/
theorem multiplyAccumulateAddsToMacr : Obligations.MultiplyAccumulateAddsToMacr := by
  rintro s n z l hs rfl hz
  refine ⟨?machu, ?mach⟩
  case machu => exact (setMac_spec l _ _ _).completes (congrArg finish (onS3_eq hs _))
  case mach =>
    have k := (setMac_spec l _ _ _).completes (i := .mach) (congrArg finish (onS3_eq hs _))
    rwa [macSigned_eq hz, getLsbD_31_eq_decide_neg] at k

end Sys2Proof.Machine
end

section
/-!
SUPPORT. One more and one less in the numbers of 45_incdec.md R280-R283: words of any width, and `inc8` and `dec8`.
-/

namespace Sys2Proof.Machine

theorem add_one_eq_of_toNat {w : Nat} {v r : BitVec w} (hr : r.toNat = (v.toNat + 1) % 2 ^ w) : v + 1 = r := by
  apply BitVec.eq_of_toNat_eq
  rw [hr, BitVec.toNat_add, BitVec.ofNat_eq_ofNat, BitVec.toNat_ofNat, Nat.add_mod_mod]

/-- Subtracting one is adding 2^w - 1, which keeps the number a natural number. -/
theorem sub_one_eq_of_toNat {w : Nat} (hw : 0 < w) {v r : BitVec w} (hr : r.toNat = (v.toNat + (2 ^ w - 1)) % 2 ^ w) :
    v - 1 = r := by
  apply BitVec.eq_of_toNat_eq
  rw [hr, BitVec.toNat_sub, BitVec.ofNat_eq_ofNat, BitVec.toNat_ofNat, Nat.one_mod_two_pow_eq_one.2 hw, Nat.add_comm]

theorem inc8_eq {v r : Byte} (hr : r.toNat = (v.toNat + 1) % 256) :
    inc8 v = { res := r, z := decide (r = 0), ac := decide (v.toNat % 16 = 15) } := by
  rw [inc8, add_one_eq_of_toNat hr]
  rfl

theorem dec8_eq {v r : Byte} (hr : r.toNat = (v.toNat + 255) % 256) :
    dec8 v = { res := r, z := decide (r = 0), ac := decide (v.toNat % 16 = 0) } := by
  rw [dec8, sub_one_eq_of_toNat (by decide) hr]
  rfl

end Sys2Proof.Machine
end

section
/-!
PROOFS. The statements of the family 45_incdec.md: INC, DEC, INCW and DECW.
-/

namespace Sys2Proof.Machine

open Sys2Proof.Forms

/-- Settles O39: every row stores and flags what `inc8` or `dec8` answers; CY is not set after the store. -/
theorem incrementAndDecrementBytes : Obligations.IncrementAndDecrementBytes := by
  intro s i dst v r l hv hw
  refine ⟨fun hi hr => ?inc, fun hi hr => ?dec⟩
  case inc =>
    have k := step8_spec l (f := inc8) hv
    rw [inc8_eq hr] at k
    exact (k hw).completes (hi.exec_eq s)
  case dec =>
    have k := step8_spec l (f := dec8) hv
    rw [dec8_eq hr] at k
    exact (k hw).completes (hi.exec_eq s)

/-- Settles O40: every row stores its operand plus or minus one, and sets no flag. -/
theorem incrementAndDecrementWords : Obligations.IncrementAndDecrementWords := by
  intro s i dst v r l hv hw hi
  obtain ⟨hi, hr⟩ | ⟨hi, hr⟩ := hi
  case inl =>
    obtain rfl : v + 1 = r := add_one_eq_of_toNat hr
    exact (step16_spec l (f := (· + 1)) hv hw).completes (hi.exec_eq s)
  case inr =>
    obtain rfl : v - 1 = r := sub_one_eq_of_toNat (by decide) hr
    exact (step16_spec l (f := (· - 1)) hv hw).completes (hi.exec_eq s)

end Sys2Proof.Machine
end

section
/-!
SUPPORT. Shifts and rotates in the numbers of 46_shift_rotate.md R291-R301, for words of any width.
-/

namespace Sys2Proof.Machine

open Sys2Proof.Forms

/-! ## Bits as numbers -/

theorem getLsbD_eq_decide {w : Nat} (v : BitVec w) (i : Nat) : v.getLsbD i = decide (v.toNat / 2 ^ i % 2 = 1) :=
  Nat.testBit_eq_decide_div_mod_eq

theorem bitVal_lt_two (c : Bool) : bitVal c < 2 := by cases c <;> decide

theorem bitVal_getLsbD {w : Nat} (v : BitVec w) (i : Nat) : bitVal (v.getLsbD i) = v.toNat / 2 ^ i % 2 := by
  rw [getLsbD_eq_decide]
  obtain h | h := Nat.mod_two_eq_zero_or_one (v.toNat / 2 ^ i) <;> rw [h] <;> rfl

theorem bitVal_getLsbD_zero {w : Nat} (v : BitVec w) : bitVal (v.getLsbD 0) = v.toNat % 2 := by
  rw [bitVal_getLsbD, pow_zero, Nat.div_one]

/-- No bit stands above the top one. -/
theorem div_two_pow_mod_two {n : Nat} (v : BitVec (n + 1)) : v.toNat / 2 ^ n % 2 = v.toNat / 2 ^ n :=
  Nat.mod_eq_of_lt (Nat.div_lt_of_lt_mul v.isLt)

theorem bitVal_getLsbD_last {n : Nat} (v : BitVec (n + 1)) : bitVal (v.getLsbD n) = v.toNat / 2 ^ n :=
  (bitVal_getLsbD v n).trans (div_two_pow_mod_two v)

/-! ## Shifts -/

theorem ushiftRight_eq_ofNat {w : Nat} (v : BitVec w) (cnt : Nat) : v >>> cnt = BitVec.ofNat w (v.toNat / 2 ^ cnt) := by
  rw [← Nat.shiftRight_eq_div_pow, ← BitVec.toNat_ushiftRight, BitVec.ofNat_toNat, BitVec.setWidth_eq]

theorem shiftLeft_eq_ofNat {w : Nat} (v : BitVec w) (cnt : Nat) :
    v <<< cnt = BitVec.ofNat w (v.toNat * 2 ^ cnt % 2 ^ w) := by
  rw [← Nat.shiftLeft_eq, ← BitVec.toNat_shiftLeft, BitVec.ofNat_toNat, BitVec.setWidth_eq]

theorem shiftRight_eq {w : Nat} (v : BitVec w) (cnt : Nat) :
    shiftRight v cnt = { res := BitVec.ofNat w (v.toNat / 2 ^ cnt)
                         cy := decide (v.toNat / 2 ^ (cnt - 1) % 2 = 1) } := by
  rw [shiftRight, ushiftRight_eq_ofNat, getLsbD_eq_decide]

theorem shiftLeft_eq {w : Nat} (v : BitVec w) (cnt : Nat) :
    shiftLeft v cnt = { res := BitVec.ofNat w (v.toNat * 2 ^ cnt % 2 ^ w)
                        cy := decide (v.toNat / 2 ^ (w - cnt) % 2 = 1) } := by
  rw [shiftLeft, shiftLeft_eq_ofNat, getLsbD_eq_decide]

/-- A negative number is shifted right with its sign by shifting its complement and complementing again. -/
theorem toNat_sshiftRight_eq_arithRight {w : Nat} (v : BitVec w) {cnt : Nat} (h : cnt ≤ w) :
    (v.sshiftRight cnt).toNat = arithRight w v.toNat cnt := by
  rw [arithRight, BitVec.toNat_sshiftRight, BitVec.msb_eq_decide]
  by_cases hs : v.toNat < 2 ^ (w - 1)
  · simp only [hs, not_le.2 hs, decide_false, Bool.false_eq_true, if_false, if_true, Nat.shiftRight_eq_div_pow]
  · have hw : 2 ^ w = 2 ^ cnt * 2 ^ (w - cnt) := by rw [← Nat.pow_add, Nat.add_sub_cancel' h]
    have hv : v.toNat < 2 ^ cnt * 2 ^ (w - cnt) := hw ▸ v.isLt
    have hq : v.toNat / 2 ^ cnt < 2 ^ (w - cnt) := Nat.div_lt_of_lt_mul hv
    have hle : 2 ^ (w - cnt) ≤ 2 ^ w := Nat.pow_le_pow_right (by decide) (Nat.sub_le w cnt)
    have hcompl : (2 ^ w - 1 - v.toNat) / 2 ^ cnt = 2 ^ (w - cnt) - (v.toNat / 2 ^ cnt + 1) := by
      rw [Nat.sub_sub, Nat.add_comm 1, hw, Nat.mul_sub_div _ _ _ hv]
    simp only [hs, not_lt.1 hs, decide_true, if_false, if_true, Nat.shiftRight_eq_div_pow, hcompl]
    generalize v.toNat / 2 ^ cnt = q at hq
    omega

theorem shiftArith_eq {w : Nat} (v : BitVec w) {cnt : Nat} (h : cnt ≤ w) :
    shiftArith v cnt = { res := BitVec.ofNat w (arithRight w v.toNat cnt)
                         cy := decide (v.toNat / 2 ^ (cnt - 1) % 2 = 1) } := by
  rw [shiftArith, ← toNat_sshiftRight_eq_arithRight v h, BitVec.ofNat_toNat, BitVec.setWidth_eq, getLsbD_eq_decide]

/-! ## Rotates -/

/-- The bit that enters stands above the bits that stay, so the union is a sum. -/
theorem rotateRightIn_eq {n : Nat} (v : BitVec (n + 1)) {c : Bool} {b : Nat} (hb : bitVal c = b) :
    rotateRightIn v c = { res := BitVec.ofNat (n + 1) (v.toNat / 2 + 2 ^ n * b)
                          cy := decide (v.toNat % 2 = 1) } := by
  subst hb
  have hstay : v.toNat / 2 < 2 ^ n := Nat.div_lt_of_lt_mul (Nat.pow_succ' ▸ v.isLt)
  have henter : BitVec.ofNat (n + 1) (bitVal c) <<< n = BitVec.ofNat (n + 1) (2 ^ n * bitVal c) := by
    apply BitVec.eq_of_toNat_eq
    rw [BitVec.toNat_shiftLeft, BitVec.toNat_ofNat, BitVec.toNat_ofNat, Nat.shiftLeft_eq, Nat.mod_mul_mod, Nat.mul_comm]
  rw [rotateRightIn, Nat.add_sub_cancel, ushiftRight_eq_ofNat, pow_one, henter, ← BitVec.ofNat_or, Nat.or_comm,
    ← Nat.two_pow_add_eq_or_of_lt hstay, Nat.add_comm (_ * _), getLsbD_eq_decide, pow_zero, Nat.div_one]

/-- The bit that enters stands below the bits that stay, so the union is a sum. -/
theorem rotateLeftIn_eq {n : Nat} (v : BitVec (n + 1)) {c : Bool} {b : Nat} (hb : bitVal c = b) :
    rotateLeftIn v c = { res := BitVec.ofNat (n + 1) (2 * v.toNat % 2 ^ (n + 1) + b)
                         cy := decide (v.toNat / 2 ^ n = 1) } := by
  subst hb
  have heven : v.toNat * 2 ^ 1 % 2 ^ (n + 1) = 2 ^ 1 * (v.toNat % 2 ^ n) := by
    rw [Nat.mul_comm, pow_one, Nat.pow_succ', Nat.mul_mod_mul_left]
  rw [rotateLeftIn, Nat.add_sub_cancel, shiftLeft_eq_ofNat, heven, ← BitVec.ofNat_or,
    ← Nat.two_pow_add_eq_or_of_lt (bitVal_lt_two c), ← heven, pow_one, Nat.mul_comm, getLsbD_eq_decide,
    div_two_pow_mod_two]

/-! ## The code of a count -/

/-- The count stands in bits 7-4 of the second byte (30_encoding.md R106). -/
theorem code_add_cntField (cnt : Fin 16) (d : Nat) :
    [0x31, BitVec.ofNat 8 d + cntField cnt] = [0x31, BitVec.ofNat 8 (16 * cnt.val + d)] := by
  rw [cntField, ← BitVec.ofNat_add, Nat.add_comm]

/-! ## Rows -/

/-- A row that shifts or rotates a register does what its operation answers in numbers. -/
theorem shiftsReg_of_eq {i : Instr} {s : State} (f : Byte → Shifted 8) {r : Reg} {v : Nat} {cy : Prop} [Decidable cy]
    (l : s.Legal) (he : exec i s = finish (shiftReg f r s))
    (hf : f (s.reg r) = { res := BitVec.ofNat 8 v, cy := decide cy }) : ShiftsReg i s r v cy := by
  have k := shiftReg_spec l f r
  rw [hf] at k
  exact k.completes he

theorem shiftsPair_of_eq {i : Instr} {s : State} (f : Word → Shifted 16) {p : RegPair} {v : Nat} {cy : Prop}
    [Decidable cy] (l : s.Legal) (he : exec i s = finish (shiftPair f p s))
    (hf : f (s.pair p) = { res := BitVec.ofNat 16 v, cy := decide cy }) : ShiftsPair i s p v cy := by
  have k := shiftPair_spec l f p
  rw [hf] at k
  exact k.completes he

end Sys2Proof.Machine
end

section
/-!
PROOFS. The statements of the family 46_shift_rotate.md: SHR, SHL, SAR, ROR, ROL, RORC, ROLC and their word forms.
-/

namespace Sys2Proof.Machine

open Sys2Proof.Forms

/-- Settles O41: the code of each row holds its count, and the row stores and flags what `shiftRight`, `shiftLeft` or
`shiftArith` answers. -/
theorem shiftsGiveResultAndCarry : Obligations.ShiftsGiveResultAndCarry := by
  rintro s cnt _ _ _ _ _ l - rfl rfl rfl rfl rfl
  refine ⟨fun hcnt => ⟨?shrA, ?shlA, ?shlB, ?shlC, ?sarA⟩, ?shrwAx, ?shlwAx, ?shlwBc, ?sarwAx⟩
  case shrA => exact ⟨code_add_cntField cnt 0xA, shiftsReg_of_eq (shiftRight · cnt.val) l rfl (shiftRight_eq _ _)⟩
  case shlA => exact ⟨code_add_cntField cnt 0x9, shiftsReg_of_eq (shiftLeft · cnt.val) l rfl (shiftLeft_eq _ _)⟩
  case shlB => exact ⟨code_add_cntField cnt 0x8, shiftsReg_of_eq (shiftLeft · cnt.val) l rfl (shiftLeft_eq _ _)⟩
  case shlC => exact ⟨code_add_cntField cnt 0x7, shiftsReg_of_eq (shiftLeft · cnt.val) l rfl (shiftLeft_eq _ _)⟩
  case sarA =>
    have hw : cnt.val ≤ 8 := hcnt.trans (Nat.le_succ 7)
    exact ⟨code_add_cntField cnt 0xB, shiftsReg_of_eq (shiftArith · cnt.val) l rfl (shiftArith_eq _ hw)⟩
  case shrwAx => exact ⟨code_add_cntField cnt 0xE, shiftsPair_of_eq (shiftRight · cnt.val) l rfl (shiftRight_eq _ _)⟩
  case shlwAx => exact ⟨code_add_cntField cnt 0xD, shiftsPair_of_eq (shiftLeft · cnt.val) l rfl (shiftLeft_eq _ _)⟩
  case shlwBc => exact ⟨code_add_cntField cnt 0xC, shiftsPair_of_eq (shiftLeft · cnt.val) l rfl (shiftLeft_eq _ _)⟩
  case sarwAx =>
    exact ⟨code_add_cntField cnt 0xF, shiftsPair_of_eq (shiftArith · cnt.val) l rfl (shiftArith_eq _ cnt.isLt.le)⟩

/-- Settles O42: each row stores and flags what `rotateRightIn` or `rotateLeftIn` answers; the bit that enters is the one
that leaves at the other end, or CY as it was. -/
theorem rotatesGiveResultAndCarry : Obligations.RotatesGiveResultAndCarry := by
  refine ⟨⟨rfl, rfl, rfl, rfl, rfl, rfl⟩, ?_⟩
  rintro s _ _ _ _ l rfl rfl rfl rfl
  refine ⟨?rorA, ?rolA, ?rorcA, ?rolcA, ?rolwcAx, ?rolwcBc⟩
  case rorA =>
    exact shiftsReg_of_eq (fun v => rotateRightIn v (v.getLsbD 0)) l rfl (rotateRightIn_eq _ (bitVal_getLsbD_zero _))
  case rolA =>
    exact shiftsReg_of_eq (fun v => rotateLeftIn v (v.getLsbD 7)) l rfl (rotateLeftIn_eq _ (bitVal_getLsbD_last _))
  case rorcA => exact shiftsReg_of_eq (rotateRightIn · s.cy) l rfl (rotateRightIn_eq _ rfl)
  case rolcA => exact shiftsReg_of_eq (rotateLeftIn · s.cy) l rfl (rotateLeftIn_eq _ rfl)
  case rolwcAx => exact shiftsPair_of_eq (rotateLeftIn · s.cy) l rfl (rotateLeftIn_eq _ rfl)
  case rolwcBc => exact shiftsPair_of_eq (rotateLeftIn · s.cy) l rfl (rotateLeftIn_eq _ rfl)

end Sys2Proof.Machine
end

section
/-!
SUPPORT. PSW bit by bit, and what the bit instructions do to it (47_bit.md R310-R317; 49_branch_skip_control.md R385,
R387).
-/

namespace Sys2Proof.Machine

theorem Psw.bit_eq_decide (p : Psw) (i : Fin 8) : p.bit i = decide (p.toByte.toNat / 2 ^ i.val % 2 = 1) := by
  rw [← Psw.toByte_getLsbD, getLsbD_eq_decide]

/-- A PSW with one bit set is known by its byte, bit by bit. -/
theorem Psw.setBit_eq_ofByte {p : Psw} {i : Fin 8} {v : Bool} {r : Byte}
    (h : ∀ j : Fin 8, r.getLsbD j.val = if j = i then v else p.toByte.getLsbD j.val) :
    p.setBit i v = Psw.ofByte r := by
  apply Psw.toByte_inj
  rw [Psw.toByte_ofByte]
  apply BitVec.eq_of_getLsbD_eq
  intro j hj
  rw [Psw.toByte_getLsbD _ ⟨j, hj⟩, Psw.bit_setBit, h ⟨j, hj⟩, Psw.toByte_getLsbD]

/-- A write of one PSW bit is the write of PSW with that bit changed. -/
theorem State.writePswBit_eq_writePsw {s : State} {i : Fin 8} {v : Bool} {r : Byte}
    (h : ∀ j : Fin 8, r.getLsbD j.val = if j = i then v else s.psw.toByte.getLsbD j.val) :
    s.writePswBit i v = s.writePsw r := by
  rw [State.writePswBit, Psw.setBit_eq_ofByte h, State.writePsw]

theorem writePsw_spec {s : State} (h : s.Legal) (v : Byte) :
    Gives (.ok (s.writePsw v)) s unchanged
      (fun q => if q = .psw then some (if s.cfg.core = .s1 then v &&& 0xD7 else v) else none) [] :=
  ⟨_, rfl, writePsw_changes h v⟩

theorem setCy_spec {s : State} (h : s.Legal) (v : Bool) :
    Gives (.ok (s.setCy v)) s unchanged (onlyPsw { s.psw with cy := v }) [] := by
  have k := flags_only h [] (fun p => { p with cy := v }) fun _ => ⟨rfl, rfl⟩
  rwa [State.logAll_nil] at k

end Sys2Proof.Machine
end

section
/-!
PROOFS. The statements of the family 47_bit.md: MOV1, AND1, OR1, XOR1, SET1, CLR1, NOT1, EI and DI.
-/

namespace Sys2Proof.Machine

open Sys2Proof.Forms

/-- Settles O43: every row combines CY with one bit, of a byte or of PSW, or sets CY itself. -/
theorem bitInstructionsComputeCy : Obligations.BitInstructionsComputeCy := by
  refine ⟨rfl, fun s l => ⟨fun i f src bit v hi hv => ?byte, fun i f bit hi => ?psw, ?set1, ?clr1, ?not1⟩⟩
  case byte =>
    rw [← bitOf_eq]
    exact (bitToCy_spec l f bit hv).completes (hi.exec_eq s)
  case psw =>
    rw [← Psw.bit_eq_decide]
    exact (setCy_spec l _).completes (hi.exec_eq s)
  case set1 => exact (setCy_spec l true).completes rfl
  case clr1 => exact (setCy_spec l false).completes rfl
  case not1 => exact (setCy_spec l _).completes rfl

/-- Settles O44: the byte given bit by bit is the byte read with one bit put. -/
theorem bitStoresChangeOneBit : Obligations.BitStoresChangeOneBit := by
  intro s i nv dst bit v r l hi hv hr hw
  obtain rfl := eq_putBit hr
  exact (putBit8_spec l bit _ hv hw).completes (hi.exec_eq s)

/-- Settles O45: every row writes one PSW bit, which is PSW written with that bit changed, and holds interrupts. -/
theorem pswBitStoresChangeOneFlagAndInhibit : Obligations.PswBitStoresChangeOneFlagAndInhibit := by
  refine ⟨rfl, rfl, fun s i nv bit r l hi hr => ?_⟩
  have he : exec i s = finish (holding (.ok (s.writePsw r))) := by
    rw [hi.exec_eq, putPswBit, State.cy, State.writePswBit_eq_writePsw hr]
    rfl
  exact (writePsw_spec l r).completesInhibiting he

end Sys2Proof.Machine
end

section
/-!
SUPPORT. What an instruction that transfers control ends in: changes, then fetch afresh at a target, with or without
interrupts held (31_addressing.md R131; 49_branch_skip_control.md R360, R361; 10_state.md R36).
-/

namespace Sys2Proof.Machine

/-- A result with exactly these changes, the next instruction at `target`, no window opened. -/
def GoesTo (r : Result) (s : State) (target : Addr) (cells : Nat → Option Byte) (ctl : CpuSfr → Option Byte)
    (events : List DevEvent) : Prop :=
  ∃ t, r = .ok t ∧ Changes s t cells ctl events ∧ JumpsTo t target ∧ Quiet s t ∧ t.Legal

section

variable {i : Instr} {r : Result} {s : State} {target : Addr} {n : Int} {c : Nat → Option Byte}
  {k : CpuSfr → Option Byte} {e : List DevEvent}

theorem GoesTo.completesAt (h : GoesTo r s target c k e) (he : exec i s = finish r) :
    CompletesAt i s target c k e := by
  obtain ⟨t, rfl, hc, hj, hq, -⟩ := h
  exact ⟨t, he, hc, hj, hq⟩

theorem goesTo_jump (h : s.Legal) (target : Addr) : GoesTo (.ok (jump s target)) s target unchanged unchanged [] :=
  ⟨_, rfl, jump_changes h target⟩

/-- What a jump relative to nextPC does depends on nextPC and the parameters alone. -/
theorem relTarget_congr {s t : State} (hpc : t.pc = s.pc) (n : Int) : relTarget t n = relTarget s n := by
  rw [relTarget, relTarget, hpc]

theorem branchAllowed_congr {s t : State} (hcfg : t.cfg = s.cfg) (hpc : t.pc = s.pc) (n : Int) :
    BranchAllowed t n ↔ BranchAllowed s n := by
  rw [BranchAllowed, BranchAllowed, hcfg, hpc, relTarget_congr hpc]

/-- An operation, then a relative jump that R361 allows. -/
theorem Gives.thenJumpRelative (h : Gives r s c k e) (ha : BranchAllowed s n) :
    GoesTo (r >>= fun t => jumpRelative t (BitVec.ofInt 20 n)) s (relTarget s n) c k e := by
  obtain ⟨t, rfl, hc, ⟨hpc, -⟩, hq, hl⟩ := h
  refine ⟨jump t (relTarget s n), ?_, hc.jump hl _, ⟨rfl, rfl⟩, hq, hl.jump _⟩
  rw [← relTarget_congr hpc n]
  exact jumpRelative_spec ((branchAllowed_congr hc.cfg hpc n).2 ha)

/-- An operation, then a relative jump out of RAM. -/
theorem Gives.thenJumpRelative_refused (h : Gives r s c k e) (ha : ¬ BranchAllowed s n) :
    (r >>= fun t => jumpRelative t (BitVec.ofInt 20 n)) = .error (.refused .relativeBranchFromRam) := by
  obtain ⟨t, rfl, hc, ⟨hpc, -⟩, -, -⟩ := h
  exact jumpRelative_refused (mt (branchAllowed_congr hc.cfg hpc n).1 ha)

/-- An operation, then a jump with interrupts held. -/
theorem Gives.jump_inhibits {u : State} (h : Gives (.ok u) s c k e) (target : Addr) :
    JumpsTo (jump (holdInterrupts u) target) target ∧ Inhibits s (jump (holdInterrupts u) target)
      ∧ Changes s (jump (holdInterrupts u) target) c k e := by
  obtain ⟨_, ⟨⟩, hc, -, ⟨-, hdiv⟩, hl⟩ := h
  have hheld : Changes s (holdInterrupts (jump u target)) c k e :=
    ((hc.jump hl target).trans (holdInterrupts_changes _).1).congr (fun _ => rfl) (fun _ => rfl) (List.append_nil e)
  exact ⟨⟨rfl, rfl⟩, ⟨rfl, hdiv⟩, hheld⟩

end

/-- Reading an operand leaves its events and nothing else. -/
theorem logAll_spec {s : State} (h : s.Legal) (e : List DevEvent) :
    Gives (.ok (s.logAll e)) s unchanged unchanged e :=
  ⟨_, rfl, Changes.logAll s e, ⟨rfl, rfl⟩, ⟨rfl, rfl⟩, h.logAll e⟩

theorem unchanged_spec {s : State} (h : s.Legal) : Gives (.ok s) s unchanged unchanged [] :=
  ⟨s, rfl, Changes.refl s, ⟨rfl, rfl⟩, ⟨rfl, rfl⟩, h⟩

theorem goesTo_jumpRelative {s : State} (h : s.Legal) {n : Int} (ha : BranchAllowed s n) :
    GoesTo (jumpRelative s (BitVec.ofInt 20 n)) s (relTarget s n) unchanged unchanged [] :=
  (unchanged_spec h).thenJumpRelative ha

end Sys2Proof.Machine
end

section
/-!
SUPPORT. Stack pointer, returns and exceptions (48_call_return_stack.md R330-R341; 60_exceptions.md R406, R410).
-/

namespace Sys2Proof.Machine

/-! ## Targets -/

theorem registerTarget_eq {s : State} {p : RegPair} {target : Addr}
    (h : target.toNat = 65536 * (s.cs.toNat % 16) + (s.pair p).toNat) : registerTarget s p = target :=
  BitVec.eq_of_toNat_eq ((registerTarget_toNat s p).trans h.symm)

theorem addrOf_zero_eq {w : Word} {target : Addr} (h : target.toNat = w.toNat) : addrOf 0 w = target := by
  apply BitVec.eq_of_toNat_eq
  rw [addrOf_toNat, h]
  simp

/-- The tables lie in code flash, below the registers, where memory and the storage bytes are the same. -/
theorem tableTarget_cell {s : State} {a : Nat} (ha : a < 0xFFEDF) :
    (tableTarget s a).toNat = (s.cell a).toNat + 256 * (s.cell (a + 1)).toNat := by
  rw [tableTarget_toNat, cell_of_lt s (by omega), cell_of_lt s (by omega)]

theorem tableTarget_eq {s : State} {a : Nat} {target : Addr} (ha : a < 0xFFEDF)
    (h : target.toNat = (s.cell a).toNat + 256 * (s.cell (a + 1)).toNat) : tableTarget s a = target :=
  BitVec.eq_of_toNat_eq ((tableTarget_cell ha).trans h.symm)

/-! ## SP -/

theorem setSp_spec {s : State} (h : s.Legal) {v : Word} (he : v &&& 1 = 0) :
    Gives (.ok (s.setSp v)) s unchanged (onlySp v) [] := by
  obtain ⟨hc, hf, hq, hl, -⟩ := setSp_changes h he
  exact ⟨_, rfl, hc, hf, hq, hl⟩

/-- SP written with a value whose bit 0 may be 1. -/
theorem setSp_spec_of_toNat {s : State} (h : s.Legal) {v w : Word} (hv : v.toNat = w.toNat / 2 * 2) :
    Gives (.ok (s.setSp w)) s unchanged (onlySp v) [] := by
  have hm : w &&& 0xFFFE = v := even_offset_eq hv
  rw [← setSp_mask, hm]
  exact setSp_spec h (hm ▸ even_of_masked w)

/-- PSW, then SP. -/
theorem writePsw_setSp_spec {s : State} (h : s.Legal) (v : Byte) {w : Word} (he : w &&& 1 = 0) :
    Gives (.ok ((s.writePsw v).setSp w)) s unchanged
      (fun r => if r = .psw then some (if s.cfg.core = .s1 then v &&& 0xD7 else v) else onlySp w r) [] := by
  have hl : (s.writePsw v).Legal := (keeps_writePsw s v).legal h
  refine ((writePsw_spec h v).trans (setSp_spec hl he)).congr (fun _ => rfl) (fun r => ?_) rfl
  cases r <;> rfl

/-! ## POP -/

theorem popPair_spec {s : State} (h : s.Legal) {lo hi : Byte} (hlo : stackRead s s.sp = .ok lo)
    (hhi : stackRead s (s.sp + 1) = .ok hi) (p : RegPair) :
    Gives (popPair s p) s (stored16 s (wordOf hi lo) (.pair p)) (onlySp (s.sp + 2)) [] := by
  have hp : popPair s p = .ok ((s.setPair p (wordOf hi lo)).setSp (s.sp + 2)) := by
    rw [popPair, hlo, hhi]
    rfl
  have hset := setSp_spec (h.setPair p (wordOf hi lo)) (sp_even_add_two h.sp)
  rw [hp]
  exact ((setPair_spec h p (wordOf hi lo)).trans hset).congr (fun _ => rfl) (fun r => Option.or_none) rfl

theorem popPsw_eq {s : State} {v : Byte} (hv : stackRead s (s.sp + 1) = .ok v) :
    popPsw s = .ok ((s.writePsw v).setSp (s.sp + 2)) := by
  rw [popPsw, hv]
  rfl

/-! ## Exceptions -/

/-- One operation after another, each with what it ends in. -/
theorem EndsIn.andThen {P Q : State → Prop} {r : Result} {f : State → Result} (h : EndsIn P r)
    (g : ∀ t, P t → EndsIn Q (f t)) : EndsIn Q (r >>= f) := by
  intro u e
  cases r with
  | error _ => cases e
  | ok t => exact g t (h t rfl) u e

/-- From `s` to `t` memory alone may change. -/
def OnlyMem (s t : State) : Prop := ∃ m, t = { s with mem := m }

theorem stackWrite_onlyMem (s : State) (off : Word) (v : Byte) : EndsIn (OnlyMem s) (stackWrite s off v) := by
  unfold stackWrite
  cases stackPlace s.cfg off with
  | ram a => exact .ok ⟨_, rfl⟩
  | registers => exact .error _
  | outside a => exact .ok ⟨s.mem, rfl⟩

theorem stackWriteWord_onlyMem (s : State) (off : Word) (hi lo : Byte) :
    EndsIn (OnlyMem s) (stackWriteWord s off hi lo) :=
  .bind (stackWrite_onlyMem s (off + 1) hi) fun _ ⟨m, ht⟩ => ht ▸ stackWrite_onlyMem { s with mem := m } off lo

/-- All that a pushed frame can change is memory and SP. -/
theorem pushFrame_onlyMemAndSp {s : State} (h : s.Legal) (top : Byte) (ret : Addr) :
    EndsIn (fun t => ∃ m, t = { s with mem := m, sp := s.sp - 4 }) (pushFrame s top ret) := by
  have he : (s.sp - 4) &&& 0xFFFE = s.sp - 4 := masked_of_even (sp_even_sub_four h.sp)
  refine .andThen (stackWriteWord_onlyMem s _ _ _) ?_
  rintro _ ⟨m, rfl⟩
  refine .andThen (stackWriteWord_onlyMem _ _ _ _) ?_
  rintro _ ⟨m', rfl⟩
  exact .ok ⟨m', by rw [State.setSp, he]⟩

/-- PSW as an exception leaves it: IE 0, ISP as given (60_exceptions.md R406). -/
def exceptionPsw (p : Psw) (isp : Option (BitVec 2)) : Psw :=
  { p with ie := false, isp1 := (isp.map (·.getLsbD 1)).getD p.isp1, isp0 := (isp.map (·.getLsbD 0)).getD p.isp0 }

/-- The state after an exception, but for the memory that the frame was pushed to. -/
def State.excepted (s : State) (vector : Nat) (isp : Option (BitVec 2)) (m : Memory) : State :=
  { s with
    mem := m
    queue := m
    sp := s.sp - 4
    psw := exceptionPsw s.psw isp
    pc := tableTarget s vector
    inhibit := false
    skip := false }

theorem takeException_eq (s : State) (vector : Nat) (isp : Option (BitVec 2)) :
    takeException s vector isp = (pushFrame s s.psw.toByte s.pc).map fun t =>
      jump { t with psw := exceptionPsw s.psw isp, inhibit := false, skip := false } (tableTarget s vector) := by
  unfold takeException
  cases pushFrame s s.psw.toByte s.pc with
  | error _ => rfl
  | ok t => cases isp <;> rfl

/-- Taking an exception: the frame's bytes are stored, and the rest of the state is known. -/
theorem takeException_spec {s : State} (h : s.Legal) (hw : FrameUsable s) (vector : Nat) (isp : Option (BitVec 2)) :
    ∃ m, takeException s vector isp = .ok (s.excepted vector isp m)
      ∧ ∀ x, (s.excepted vector isp m).cell x = (frameCells s s.psw.toByte s.pc x).getD (s.cell x) := by
  obtain ⟨t, ht, hc, -⟩ := pushFrame_spec h s.psw.toByte s.pc hw
  obtain ⟨m, rfl⟩ := pushFrame_onlyMemAndSp h _ _ t ht
  refine ⟨m, ?_, fun x => ?_⟩
  · rw [takeException_eq, ht]
    rfl
  · rw [← hc.storage x]
    exact cell_congr rfl (fun n => by cases n <;> rfl) x

/-- Where no window was open and no skip pending, PSW, SP and the frame are all that an exception changes. -/
theorem excepted_changes {s : State} (hin : s.inhibit = false) (hsk : s.skip = false) {vector : Nat}
    {isp : Option (BitVec 2)} {m : Memory} {c : Nat → Option Byte}
    (hc : ∀ x, (s.excepted vector isp m).cell x = (c x).getD (s.cell x)) :
    Changes s (s.excepted vector isp m) c
        (fun r => if r = .psw then some (exceptionPsw s.psw isp).toByte else onlySp (s.sp - 4) r) []
      ∧ JumpsTo (s.excepted vector isp m) (tableTarget s vector) ∧ Quiet s (s.excepted vector isp m) := by
  refine ⟨⟨hc, fun r => ?_, (List.append_nil _).symm, rfl, rfl, hsk.symm, rfl, rfl, rfl⟩, ⟨rfl, rfl⟩, hin.symm, rfl⟩
  cases r <;> rfl

/-- Returning from an exception. -/
theorem returnFromException_spec {s : State} (h : s.Legal) {b0 b1 b2 b3 : Byte} {target : Addr}
    (h0 : stackRead s s.sp = .ok b0) (h1 : stackRead s (s.sp + 1) = .ok b1) (h2 : stackRead s (s.sp + 2) = .ok b2)
    (h3 : stackRead s (s.sp + 3) = .ok b3)
    (ht : target.toNat = b0.toNat + 256 * b1.toNat + 65536 * (b2.toNat % 16)) :
    ∃ t, returnFromException s = .ok t ∧ JumpsTo t target ∧ Inhibits s t
      ∧ Changes s t unchanged
          (fun r => if r = .psw then some (if s.cfg.core = .s1 then b3 &&& 0xD7 else b3) else onlySp (s.sp + 4) r)
          [] := by
  obtain ⟨a, ha, hn⟩ := frameAddr_spec h0 h1 h2
  obtain rfl : a = target := BitVec.eq_of_toNat_eq (hn.trans ht.symm)
  refine ⟨_, ?_, (writePsw_setSp_spec h b3 (sp_even_add_four h.sp)).jump_inhibits a⟩
  rw [returnFromException, ha, h3]
  rfl

end Sys2Proof.Machine
end

section
/-!
PROOFS. The statements of the family 48_call_return_stack.md: CALL, CALLT, RET, BRK, RETI, RETB, PUSH, POP, ADDW SP and
SUBW SP.
-/

namespace Sys2Proof.Machine

open Sys2Proof.Forms

/-- Settles O46: every row is a call of the address its operand denotes. -/
theorem callsPushTheReturnAddress : Obligations.CallsPushTheReturnAddress := by
  intro s target l hw
  have hcall : GoesTo (call s target) s target (frameCells s 0 s.pc) (onlySp (s.sp - 4)) [] := call_spec l target hw
  refine ⟨fun rp ht => ?rp, fun disp ht ha => ?rel16, fun w ht => ?abs16, ?abs20, fun k ht => ?callt⟩
  case rp =>
    obtain rfl := registerTarget_eq ht
    exact hcall.completesAt rfl
  case rel16 =>
    have hr : callRelative s (sext16 disp) = call s target := by
      rw [callRelative, sext16_eq, jumpRelative_spec ha, relTarget_eq, ht]
      rfl
    exact hcall.completesAt (congrArg finish hr)
  case abs16 =>
    obtain rfl := addrOf_zero_eq ht
    exact hcall.completesAt rfl
  case abs20 => exact hcall.completesAt rfl
  case callt =>
    have hlt : 0x80 + 2 * k.val < 0xFFEDF := by omega
    have hodd : 0x81 + 2 * k.val = 0x80 + 2 * k.val + 1 := by omega
    rw [hodd] at ht
    obtain rfl := tableTarget_eq hlt ht
    exact hcall.completesAt rfl

/-- Settles O47, by what a return from a subroutine does. -/
theorem returnTakesPcFromTheFrame : Obligations.ReturnTakesPcFromTheFrame := by
  refine ⟨rfl, fun s b0 b1 b2 target l h0 h1 h2 ht => ?_⟩
  obtain ⟨t, a, hr, ha, h⟩ := returnFromCall_spec l h0 h1 h2
  obtain rfl : a = target := BitVec.eq_of_toNat_eq (ha.trans ht.symm)
  exact GoesTo.completesAt ⟨t, hr, h⟩ rfl

/-- Settles O48: BRK is an exception whose vector is 0007EH and which leaves ISP. -/
theorem breakTakesTheSoftwareException : Obligations.BreakTakesTheSoftwareException := by
  intro s target l hin hsk hw ht
  obtain ⟨m, hm, hcell⟩ := takeException_spec l hw 0x7E none
  obtain rfl := tableTarget_eq (by decide) ht
  exact ⟨_, congrArg finish hm, excepted_changes hin hsk hcell⟩

/-- Settles O49: both rows return from an exception; RETI then adds its event. -/
theorem exceptionReturnsRestorePcAndPsw : Obligations.ExceptionReturnsRestorePcAndPsw := by
  intro s b0 b1 b2 b3 target i l h0 h1 h2 h3 ht hi
  obtain ⟨t, hr, hj, hin, hc⟩ := returnFromException_spec l h0 h1 h2 h3 ht
  obtain rfl | rfl := hi
  case inl =>
    refine ⟨t.log .endOfService, ?_, hj, hin, hc.trans (Changes.logAll t [.endOfService])⟩
    exact congrArg (fun r : Result => finish (r.map fun u => u.log .endOfService)) hr
  case inr => exact ⟨t, congrArg finish hr, hj, hin, hc⟩

/-- Settles O50: both rows push a word, of a pair or of PSW above 00H. -/
theorem pushStoresBelowSp : Obligations.PushStoresBelowSp := by
  intro s l hw
  refine ⟨fun rp => ?rp, ?psw⟩
  case rp =>
    have k : Gives _ s _ _ [] := push_spec l (s.pair rp) hw
    rw [State.pair, highByte_wordOf, lowByte_wordOf] at k
    exact k.completes rfl
  case psw =>
    have k : Gives _ s _ _ [] := push_spec l (wordOf s.psw.toByte 0x00) hw
    rw [highByte_wordOf, lowByte_wordOf] at k
    exact k.completes rfl

/-- Settles O51: POP rp writes the pair, POP PSW writes PSW and holds interrupts; then SP moves. -/
theorem popLoadsFromSp : Obligations.PopLoadsFromSp := by
  intro s lo hi l hlo hhi
  refine ⟨fun rp => (popPair_spec l hlo hhi rp).completes rfl, ?psw⟩
  exact (writePsw_setSp_spec l hi (sp_even_add_two l.sp)).completesInhibiting
    (congrArg (finish <| holding ·) (popPsw_eq hhi))

/-- Settles O52: each row writes SP with its sum or difference, which drops bit 0. -/
theorem stackPointerArithmetic : Obligations.StackPointerArithmetic := by
  intro s data v l
  have hd := data.isLt
  have hdata : (data.setWidth 16).toNat = data.toNat := BitVec.toNat_setWidth_of_le (by decide)
  refine ⟨rfl, rfl, fun hv => ?add, fun hv => ?sub⟩
  case add =>
    have hsum : v.toNat = (s.sp + data.setWidth 16).toNat / 2 * 2 := by rw [hv, BitVec.toNat_add, hdata]
    exact (setSp_spec_of_toNat l hsum).completes rfl
  case sub =>
    have hdiff : v.toNat = (s.sp - data.setWidth 16).toNat / 2 * 2 := by
      rw [hv, BitVec.toNat_sub, hdata]
      omega
    exact (setSp_spec_of_toNat l hdiff).completes rfl

end Sys2Proof.Machine
end

section
/-!
SUPPORT. What BT, BF and BTCLR do once their byte is read (49_branch_skip_control.md R369-R371).
-/

namespace Sys2Proof.Machine

theorem Psw.onCore_eq_self {core : CpuCore} {p : Psw} (h : core = .s1 → p.rbs1 = false ∧ p.rbs0 = false) :
    p.onCore core = p := by
  unfold Psw.onCore
  split
  · obtain ⟨h1, h0⟩ := h ‹_›
    cases p
    simp_all
  · rfl

theorem Psw.setBit_false_rbs {p : Psw} (h : p.rbs1 = false ∧ p.rbs0 = false) (i : Fin 8) :
    (p.setBit i false).rbs1 = false ∧ (p.setBit i false).rbs0 = false := by
  fin_cases i <;> simp [Psw.setBit, h]

/-- PSW with a bit cleared is a PSW that the core can hold. -/
theorem pswByte_of_bit_cleared {s : State} (h : s.Legal) {i : Fin 8} {r : Byte}
    (hr : ∀ j : Fin 8, r.getLsbD j.val = if j = i then false else s.psw.toByte.getLsbD j.val) :
    (if s.cfg.core = .s1 then r &&& 0xD7 else r) = r := by
  have hself := Psw.onCore_eq_self fun hc => Psw.setBit_false_rbs (h.psw hc) i
  rw [Psw.setBit_eq_ofByte hr] at hself
  rw [← Psw.toByte_onCore, hself, Psw.toByte_ofByte]

section

variable {s : State} {l : Loc8} {bit : Fin 8} {d v : Byte} {want : Bool}

theorem branchOnBit_not_taken (hv : l.value s = .ok v) (hb : bitOf v bit ≠ want) :
    branchOnBit want l bit d s = .ok (s.logAll (readEvents8 s l)) := by
  have hne : (bitOf v bit == want) = false := beq_eq_false_iff_ne.2 hb
  rw [branchOnBit, hv, Loc8.touched_eq]
  exact (congrArg (branchIf · d _) hne).trans (branchIf_false d _)

theorem branchOnBit_taken (hv : l.value s = .ok v) (hb : bitOf v bit = want) :
    branchOnBit want l bit d s = jumpRelative (s.logAll (readEvents8 s l)) (sext8 d) := by
  have heq : (bitOf v bit == want) = true := beq_iff_eq.2 hb
  rw [branchOnBit, hv, Loc8.touched_eq]
  exact congrArg (branchIf · d _) heq

theorem branchOnPswBit_not_taken (hb : s.psw.bit bit ≠ want) : branchOnPswBit want bit d s = .ok s := by
  rw [branchOnPswBit, beq_eq_false_iff_ne.2 hb, branchIf_false]

theorem branchOnPswBit_taken (hb : s.psw.bit bit = want) :
    branchOnPswBit want bit d s = jumpRelative s (sext8 d) := by
  rw [branchOnPswBit, beq_iff_eq.2 hb]
  rfl

theorem branchClear_not_taken (hv : l.value s = .ok v) (hb : v.getLsbD bit.val = false) :
    branchClear l bit d s = .ok (s.logAll (readEvents8 s l)) := by
  rw [← Loc8.touched_eq, branchClear, hv]
  exact if_neg (Bool.eq_false_iff.1 hb)

/-- Where the bit is 1, BTCLR is the store of a 0 to it, then the jump. -/
theorem branchClear_taken (hv : l.value s = .ok v) (hb : v.getLsbD bit.val = true) :
    branchClear l bit d s = putBit8 l bit false s >>= fun t => jumpRelative t (sext8 d) := by
  rw [branchClear, putBit8, hv]
  exact if_pos hb

theorem branchClearPswBit_not_taken (hb : s.psw.toByte.getLsbD bit.val = false) :
    branchClearPswBit bit d s = holding (.ok s) := by
  rw [Psw.toByte_getLsbD] at hb
  exact if_neg (Bool.eq_false_iff.1 hb)

theorem branchClearPswBit_taken (hb : s.psw.toByte.getLsbD bit.val = true) :
    branchClearPswBit bit d s = jumpRelative (holdInterrupts (s.writePswBit bit false)) (sext8 d) := by
  rw [Psw.toByte_getLsbD] at hb
  exact if_pos hb

end

theorem skipped_eq_next {i : Instr} (h : i ≠ .prefixByte) (t : State) : skipped i t = .next t := by
  unfold skipped
  split
  · exact absurd rfl h
  · rfl

end Sys2Proof.Machine
end

section
/-!
PROOFS. The statements of the family 49_branch_skip_control.md: BR, BT, BF, BTCLR, the skips, SEL, NOP, HALT and STOP.
-/

namespace Sys2Proof.Machine

open Sys2Proof.Forms

/-- Settles O53: every row is a jump to the address its operand denotes. -/
theorem branchGoesToTheTarget : Obligations.BranchGoesToTheTarget := by
  intro s target l
  have hjump := goesTo_jump l target
  refine ⟨fun ht => ?ax, fun d ht ha => ?rel8, fun d ht ha => ?rel16, fun w ht => ?abs16, ?abs20⟩
  case ax =>
    obtain rfl := registerTarget_eq ht
    exact hjump.completesAt rfl
  case rel8 => exact ht ▸ (goesTo_jumpRelative l ha).completesAt rfl
  case rel16 => exact ht ▸ (goesTo_jumpRelative l ha).completesAt rfl
  case abs16 =>
    obtain rfl := addrOf_zero_eq ht
    exact hjump.completesAt rfl
  case abs20 => exact hjump.completesAt rfl

/-- Settles O55: the operand is read; not taken, that is all; taken, a jump follows. -/
theorem bitBranchesTestOneBit : Obligations.BitBranchesTestOneBit := by
  intro s i want bit d l
  refine ⟨fun src v hi hv => ⟨fun hb => ?notTaken, fun hb ha => ?taken⟩,
    fun hi => ⟨fun hb => ?pswNotTaken, fun hb ha => ?pswTaken⟩⟩
  case notTaken =>
    rw [← bitOf_eq] at hb
    exact (logAll_spec l _).completes ((hi.exec_eq s).trans (congrArg finish (branchOnBit_not_taken hv hb)))
  case taken =>
    rw [← bitOf_eq] at hb
    exact ((logAll_spec l _).thenJumpRelative ha).completesAt
      ((hi.exec_eq s).trans (congrArg finish (branchOnBit_taken hv hb)))
  case pswNotTaken =>
    rw [← Psw.bit_eq_decide] at hb
    exact (unchanged_spec l).completes ((hi.exec_eq s).trans (congrArg finish (branchOnPswBit_not_taken hb)))
  case pswTaken =>
    rw [← Psw.bit_eq_decide] at hb
    exact (goesTo_jumpRelative l ha).completesAt
      ((hi.exec_eq s).trans (congrArg finish (branchOnPswBit_taken hb)))

/-- Settles O56: taken, the row is a bit store and then a jump; on a PSW bit interrupts are held in both cases. -/
theorem bitClearBranchesClearAndBranch : Obligations.BitClearBranchesClearAndBranch := by
  intro s bit d l
  refine ⟨fun i dst v r hi hv => ⟨fun hb => ?notTaken, fun hb hr hw ha => ?taken⟩, fun hb => ?pswNotTaken,
    fun r hb hr ha => ?pswTaken⟩
  case notTaken =>
    exact (logAll_spec l _).completes ((hi.exec_eq s).trans (congrArg finish (branchClear_not_taken hv hb)))
  case taken =>
    obtain rfl := eq_putBit hr
    exact ((putBit8_spec l bit false hv hw).thenJumpRelative ha).completesAt
      ((hi.exec_eq s).trans (congrArg finish (branchClear_taken hv hb)))
  case pswNotTaken =>
    exact (unchanged_spec l).completesInhibiting (congrArg finish (branchClearPswBit_not_taken hb))
  case pswTaken =>
    have hbranch : branchClearPswBit bit d s
        = .ok (jump (holdInterrupts (s.writePsw r)) (relTarget s d.toInt)) := by
      rw [branchClearPswBit_taken hb, State.writePswBit_eq_writePsw hr]
      exact jumpRelative_spec (s := holdInterrupts (s.writePsw r)) ha
    obtain ⟨hj, hin, hc⟩ := (writePsw_spec l r).jump_inhibits (relTarget s d.toInt)
    rw [pswByte_of_bit_cleared l hr] at hc
    exact ⟨_, congrArg finish hbranch, hj, hin, hc⟩

/-- Settles O57: in every row the jump is refused, whatever was read or stored before it. -/
theorem relativeBranchOutOfRamIsRefused : Obligations.RelativeBranchOutOfRamIsRefused := by
  intro s d e
  refine ⟨fun he => ⟨?br16, ?call16⟩, fun hd => ⟨?br8, fun i c hi hc => ?branch, fun i want src bit v hi hv hb => ?bit,
    fun i want bit hi hb => ?pswBit, fun i dst bit v r l hi hv hb hr hw => ?clear, fun bit hb => ?pswClear⟩⟩
  case br16 => exact congrArg finish (jumpRelative_refused he)
  case call16 =>
    have hcall : callRelative s (sext16 e) = .error (.refused .relativeBranchFromRam) := by
      rw [callRelative, sext16_eq, jumpRelative_refused he]
      rfl
    exact congrArg finish hcall
  case br8 => exact congrArg finish (jumpRelative_refused hd)
  case branch =>
    rw [hi.exec_eq, hc]
    exact congrArg finish (jumpRelative_refused hd)
  case bit =>
    rw [← bitOf_eq] at hb
    rw [hi.exec_eq, branchOnBit_taken hv hb]
    exact congrArg finish (jumpRelative_refused (s := s.logAll (readEvents8 s src)) hd)
  case pswBit =>
    rw [← Psw.bit_eq_decide] at hb
    rw [hi.exec_eq, branchOnPswBit_taken hb]
    exact congrArg finish (jumpRelative_refused hd)
  case clear =>
    obtain rfl := eq_putBit hr
    rw [hi.exec_eq, branchClear_taken hv hb]
    exact congrArg finish ((putBit8_spec l bit false hv hw).thenJumpRelative_refused hd)
  case pswClear =>
    exact congrArg finish ((branchClearPswBit_taken hb).trans
      (jumpRelative_refused (s := holdInterrupts (s.writePswBit bit false)) hd))

/-- Settles O59: PSW with RBS replaced; S1 has no such code. -/
theorem selectChangesTheBank : Obligations.SelectChangesTheBank := by
  refine ⟨fun n => rfl, fun n rest => ?s1, fun s n l hs => ?sel⟩
  case s1 => cases n <;> rfl
  case sel =>
    have he : exec (.sel n) s
        = .next { s with psw := { s.psw with rbs1 := n.code.getLsbD 1, rbs0 := n.code.getLsbD 0 } } :=
      congrArg finish (if_neg hs)
    refine ⟨_, he, ?_, ⟨rfl, rfl⟩, ⟨rfl, rfl⟩, (Changes.refl s).withPsw _⟩
    rw [State.rbs, if_neg hs]
    cases n <;> rfl

/-- Settles O7: the step reaches its boundary, nothing comes before the instruction, and the skip passes it. -/
theorem skippedInstructionOnlyPasses : Obligations.SkippedInstructionOnlyPasses := by
  intro s i n hr hm hq hs hi hd
  have hrun : runInstruction (atBoundary s) = skipped i (startInstruction (atBoundary s) n) :=
    (runInstruction_of_decode hd).trans (if_pos hs)
  refine ⟨startInstruction (atBoundary s) n, ?_, rfl, rfl, rfl, rfl, ?_⟩
  · rw [step_of_boundary hr ((staysInStandby_eq_false_iff s _).2 hm),
      boundary_of_none ((pendingRequest_atBoundary s _).trans hq), hrun]
    exact skipped_eq_next hi _
  · refine ⟨fun a => cell_congr rfl (fun m => by cases m <;> rfl) a, fun r => by cases r <;> rfl,
      (List.append_nil _).symm, rfl, rfl, rfl, rfl, rfl, rfl⟩

/-- Settles O58, by what a skip instruction does. -/
theorem skipsMarkTheNextInstruction : Obligations.SkipsMarkTheNextInstruction :=
  ⟨⟨rfl, rfl, rfl, rfl, rfl, rfl⟩, fun s _ _ hi => hi.exec_next s⟩

/-- Settles O60, row by row. -/
theorem nopHaltStopChangeOnlyTheMode : Obligations.NopHaltStopChangeOnlyTheMode :=
  ⟨rfl, rfl, rfl, fun _ => ⟨rfl, rfl, rfl⟩⟩

end Sys2Proof.Machine
end

section
/-!
SUPPORT. When a request is taken or held, and what accepting it leaves (60_exceptions.md R402-R406).
-/

namespace Sys2Proof.Machine

theorem acceptable_eq_true_iff (s : State) (q : IrqRequest) :
    acceptable s q = true ↔ (q.maskable = true → s.psw.ie = true) := by
  cases hm : q.maskable <;> simp [acceptable, State.ie, hm]

/-- An acceptable request is taken outside a window. -/
theorem pendingRequest_some_iff (s : State) (q : IrqRequest) :
    pendingRequest s (some q) = some q ↔ s.inhibit = false ∧ (q.maskable = true → s.psw.ie = true) := by
  rw [← acceptable_eq_true_iff]
  cases hi : s.inhibit <;> simp [pendingRequest, hi, Option.filter]

/-- A request is held by the window, and a maskable one by IE = 0 (R403, R404). -/
theorem pendingRequest_some_eq_none (s : State) (q : IrqRequest)
    (h : s.inhibit = true ∨ (q.maskable = true ∧ s.psw.ie = false)) : pendingRequest s (some q) = none := by
  obtain hi | ⟨hm, hie⟩ := h
  · simp [pendingRequest, hi]
  · have ha : acceptable s q = false := by simp [acceptable, State.ie, hm, hie]
    simp [pendingRequest, Option.filter, ha]

theorem vectorAllowed_iff (v : Nat) : vectorAllowed v = true ↔ v % 2 = 0 ∧ 2 ≤ v ∧ v ≤ 0x7C := by
  simp [vectorAllowed, and_assoc]

/-- An interrupted unprotected division spoils registers of the selected bank and nothing else (R268; D33). -/
theorem spoilDivision_bank {s : State} {n : BankNo} (h : s.divHazard = false ∨ n ≠ s.rbs) :
    (spoilDivision s).bank n = s.bank n := by
  unfold spoilDivision
  split
  · rename_i hd
    rw [State.bank_withBank, if_neg (h.resolve_left (by simp [hd]))]
  · rfl

/-- The state after a request was accepted, but for the memory that the frame was pushed to. -/
def State.interrupted (s : State) (q : IrqRequest) (m : Memory) : State :=
  { (spoilDivision s).excepted q.vector (some q.newIsp) m with divHazard := false }

/-- Accepting a request whose vector is allowed: the frame's bytes are stored, and the rest of the state is known. -/
theorem acceptInterrupt_spec {s : State} (h : s.Legal) {q : IrqRequest} (hv : vectorAllowed q.vector = true)
    (hw : FrameUsable s) :
    ∃ m, acceptInterrupt s q = .ok (s.interrupted q m)
      ∧ ∀ x, (x < 0xFFEE0 ∨ 0xFFEFF < x) →
        (s.interrupted q m).cell x = (frameCells s s.psw.toByte s.pc x).getD (s.cell x) := by
  have hw' : FrameUsable (spoilDivision s) := by simpa only [FrameUsable, spoilDivision_cfg, spoilDivision_sp] using hw
  obtain ⟨m, hm, hcell⟩ :=
    takeException_spec ((keeps_spoilDivision s).legal h) hw' q.vector (some q.newIsp)
  refine ⟨m, ?_, fun x hx => ?_⟩
  · rw [acceptInterrupt, if_pos hv, hm]
    rfl
  · have hstorage : ∀ t : State, t.cell x = t.mem.read x := fun t => if_neg (by omega)
    have hframe : frameCells (spoilDivision s) (spoilDivision s).psw.toByte (spoilDivision s).pc x
        = frameCells s s.psw.toByte s.pc x := by
      simp only [frameCells, pushCells, spoilDivision_cfg, spoilDivision_sp, spoilDivision_psw, spoilDivision_pc]
    rw [← hframe, hstorage s, ← spoilDivision_mem s, ← hstorage, ← hcell x]
    exact (hstorage _).trans (hstorage _).symm

theorem interrupted_bank {s : State} {q : IrqRequest} {m : Memory} {n : BankNo}
    (h : s.divHazard = false ∨ n ≠ s.rbs) : (s.interrupted q m).bank n = s.bank n := by
  rw [← spoilDivision_bank h]
  cases n <;> rfl

end Sys2Proof.Machine
end

section
/-!
PROOFS. The statements of the family 60_exceptions.md: interrupts taken and held, standby.
-/

namespace Sys2Proof.Machine

/-- Settles O9: the step reaches its boundary, where the request is accepted; accepting it leaves a known state. -/
theorem stepTakesAnAcceptedInterrupt : Obligations.StepTakesAnAcceptedInterrupt := by
  intro s q l hr hm hin hq hie h2 hlo hhi hw
  have hpending : pendingRequest (atBoundary s) (currentInput s).request = some q := by
    rw [pendingRequest_atBoundary, hq]
    exact (pendingRequest_some_iff s q).2 ⟨hin, hie⟩
  obtain ⟨m, hok, hcell⟩ := acceptInterrupt_spec l.atBoundary ((vectorAllowed_iff _).2 ⟨h2, hlo, hhi⟩) hw
  have hstep : step s = .next ((atBoundary s).interrupted q m) := by
    rw [step_of_boundary hr ((staysInStandby_eq_false_iff s _).2 hm), boundary_of_some hpending, hok]
    rfl
  have hpc : ((atBoundary s).interrupted q m).pc.toNat
      = (s.cell q.vector).toNat + 256 * (s.cell (q.vector + 1)).toNat := by
    have ht := tableTarget_toNat (spoilDivision (atBoundary s)) q.vector
    rw [spoilDivision_mem] at ht
    rw [cell_of_lt s (by omega), cell_of_lt s (by omega)]
    exact ht
  have hpsw := congrArg (exceptionPsw · (some q.newIsp)) (spoilDivision_psw (atBoundary s))
  have hsp := congrArg (· - 4) (spoilDivision_sp (atBoundary s))
  refine ⟨_, hstep, spoilDivision_mode _, rfl, rfl, rfl, hpc, rfl, hpsw, hsp, spoilDivision_es _, spoilDivision_cs _,
    spoilDivision_pmc _, spoilDivision_macr _, spoilDivision_devLog _, fun a ha => ?storage, fun n hn => ?banks⟩
  case storage => exact hcell a ha
  case banks =>
    rw [interrupted_bank (s := atBoundary s) hn]
    cases n <;> rfl

/-- Settles O10: nothing is taken, so the step runs the instruction, or waits in standby. -/
theorem heldRequestsChangeNothing : Obligations.HeldRequestsChangeNothing := by
  intro s q hr hq hheld
  have hnone : pendingRequest (atBoundary s) (currentInput s).request = none := by
    rw [pendingRequest_atBoundary, hq]
    exact pendingRequest_some_eq_none s q hheld
  split
  · rename_i hm
    rw [step_of_boundary hr ((staysInStandby_eq_false_iff s _).2 hm), boundary_of_none hnone]
    rfl
  · rename_i hm
    have hs : staysInStandby s (currentInput s) = true :=
      Bool.not_eq_false _ ▸ mt (staysInStandby_eq_false_iff s _).1 hm
    exact step_of_standby hr hs

/-- Settles O11: a waiting step only ticks; a release reaches the same boundary as run mode does. -/
theorem standbyWaitsForRelease : Obligations.StandbyWaitsForRelease := by
  intro s hm hr
  refine ⟨fun hrel => ?waits, fun hrel => ?released⟩
  case waits =>
    have hs : staysInStandby s (currentInput s) = true := by simp [staysInStandby, hm, hrel]
    exact step_of_standby hr hs
  case released =>
    have hs := (staysInStandby_eq_false_iff s _).2 (.inr hrel)
    have hrun := (staysInStandby_eq_false_iff { s with mode := .run } (currentInput s)).2 (.inl rfl)
    rw [step_of_boundary hr hs]
    exact (step_of_boundary (s := { s with mode := .run }) hr hrun).symm

end Sys2Proof.Machine
end

section
/-!
PROOFS. The statement of the family 70_reset_and_hazards.md: the reset signal.
-/

namespace Sys2Proof.Machine

/-- Settles O12: the step is the reset signal alone. PC comes from the table entry at 00000H, which lies below RAM and so
keeps its bytes; SP's low bit is masked. -/
theorem resetSignalActsInEveryState : Obligations.ResetSignalActsInEveryState := by
  intro s l hr
  have hflash : ∀ a, inRam s.cfg a = false → (resetSignal (tick s)).mem.read a = s.mem.read a :=
    fun a ha => resetMemory_read s.cfg _ l.mem ha
  have hvector : ∀ a ≤ 1, inRam s.cfg a = false := fun a ha => by
    have := Config.le_ramBase l.cfg
    simp [inRam]
    omega
  have hpc : (resetSignal (tick s)).pc.toNat
      = ((resetSignal (tick s)).mem.read 0).toNat + 256 * ((resetSignal (tick s)).mem.read 1).toNat :=
    tableTarget_toNat (resetSignal (tick s)) 0
  rw [hflash 0 (hvector 0 (by decide)), hflash 1 (hvector 1 (by decide))] at hpc
  exact ⟨_, step_of_reset hr, hpc, rfl, rfl, rfl, rfl, (sp_even_iff _).1 (even_of_masked _), rfl, rfl, rfl, rfl, hflash⟩

end Sys2Proof.Machine
end
section
/-!
PROOFS. The cells of the opcode maps, said once: which bytes are an opcode, which cell of the four maps stands there and
which `ES:` form follows the PREFIX byte there. Decoding is reading the operands of that cell.
-/

namespace Sys2Proof.Opcodes

open Sys2Proof.Machine Sys2Proof.Forms

/-! ## Opcode bytes with a bit number or a shift count (30_encoding.md R105, R106) -/

/-- Column `col` with the bit number `bit`, high nibble 0 to 7. -/
def lowCode (col : Fin 16) (bit : Fin 8) : Byte := BitVec.ofNat 8 col + bitField bit

/-- Column `col` with the bit number `bit`, high nibble 8 to F. -/
def highCode (col : Fin 16) (bit : Fin 8) : Byte := BitVec.ofNat 8 (0x80 + col) + bitField bit

/-- Column `col` with the shift count `cnt`. -/
def countCode (col cnt : Fin 16) : Byte := BitVec.ofNat 8 col + cntField cnt

theorem lowCode_toNat (col : Fin 16) (bit : Fin 8) : (lowCode col bit).toNat = 16 * bit + col := by
  simp only [lowCode, bitField, BitVec.toNat_add, BitVec.toNat_ofNat]
  omega

theorem highCode_toNat (col : Fin 16) (bit : Fin 8) : (highCode col bit).toNat = 16 * (8 + bit) + col := by
  simp only [highCode, bitField, BitVec.toNat_add, BitVec.toNat_ofNat]
  omega

theorem countCode_toNat (col cnt : Fin 16) : (countCode col cnt).toNat = 16 * cnt + col := by
  simp only [countCode, cntField, BitVec.toNat_add, BitVec.toNat_ofNat]
  omega

theorem exists_countCode (c : Byte) : ∃ col cnt, c = countCode col cnt :=
  ⟨⟨c.toNat % 16, by omega⟩, ⟨c.toNat / 16, by omega⟩,
    BitVec.eq_of_toNat_eq (by rw [countCode_toNat]; exact (Nat.div_add_mod _ _).symm)⟩

theorem exists_lowCode_or_highCode (c : Byte) : ∃ col bit, c = lowCode col bit ∨ c = highCode col bit := by
  by_cases h : c.toNat < 0x80
  · exact ⟨⟨c.toNat % 16, by omega⟩, ⟨c.toNat / 16, by omega⟩, .inl (BitVec.eq_of_toNat_eq (by
      rw [lowCode_toNat]; exact (Nat.div_add_mod _ _).symm))⟩
  · exact ⟨⟨c.toNat % 16, by omega⟩, ⟨c.toNat / 16 - 8, by omega⟩, .inr (BitVec.eq_of_toNat_eq (by
      simp only [highCode_toNat]; omega))⟩

theorem ofNat_div_lowCode (col : Fin 16) (bit : Fin 8) : Fin.ofNat 8 ((lowCode col bit).toNat / 16) = bit := by
  rw [lowCode_toNat]
  ext
  simp only [Fin.val_ofNat]
  omega

theorem ofNat_div_highCode (col : Fin 16) (bit : Fin 8) : Fin.ofNat 8 ((highCode col bit).toNat / 16) = bit := by
  rw [highCode_toNat]
  ext
  simp only [Fin.val_ofNat]
  omega

theorem ofNat_div_countCode (col cnt : Fin 16) : Fin.ofNat 16 ((countCode col cnt).toNat / 16) = cnt := by
  rw [countCode_toNat]
  ext
  simp only [Fin.val_ofNat]
  omega

theorem lowCode_mod (col : Fin 16) (bit : Fin 8) : (lowCode col bit).toNat % 16 = col := by
  rw [lowCode_toNat]; omega

theorem highCode_mod (col : Fin 16) (bit : Fin 8) : (highCode col bit).toNat % 16 = col := by
  rw [highCode_toNat]; omega

theorem countCode_mod (col cnt : Fin 16) : (countCode col cnt).toNat % 16 = col := by
  rw [countCode_toNat]; omega

theorem lowCode_lt (col : Fin 16) (bit : Fin 8) : (lowCode col bit).toNat < 0x80 := by
  rw [lowCode_toNat]; omega

theorem highCode_not_lt (col : Fin 16) (bit : Fin 8) : ¬ (highCode col bit).toNat < 0x80 := by
  rw [highCode_toNat]; omega

/-! ## The 3rd and the 4th map by column -/

theorem cell3_lowCode (col : Fin 16) (bit : Fin 8) :
    cell3 (lowCode col bit) = (map3Low bit).getD col .unassigned := by
  simp only [cell3, ofNat_div_lowCode, lowCode_mod, lowCode_lt, if_true]

theorem cell3_highCode (col : Fin 16) (bit : Fin 8) :
    cell3 (highCode col bit) = (map3High bit).getD col .unassigned := by
  simp only [cell3, ofNat_div_highCode, highCode_mod, highCode_not_lt, if_false]

theorem cell4_lowCode {col : Fin 16} (h : col.val < 6) (bit : Fin 8) :
    cell4 (lowCode col bit) = (map4Low bit).getD col .unassigned := by
  simp only [cell4, ofNat_div_lowCode, lowCode_mod, lowCode_lt, h, if_true]

theorem cell4_highCode {col : Fin 16} (h : col.val < 6) (bit : Fin 8) :
    cell4 (highCode col bit) = (map4High bit).getD col .unassigned := by
  simp only [cell4, ofNat_div_highCode, highCode_mod, highCode_not_lt, h, if_true, if_false]

/-- Columns 6 to F of the 4th map at a shift count: column 6 is blank, then the byte shifts, then the word shifts. -/
noncomputable def shiftCell (col cnt : Fin 16) : Form :=
  if col.val = 6 then .unassigned
  else if col.val < 12 then if byteCount cnt then (map4ByteShifts cnt).getD (col - 7) .unassigned else .unassigned
  else if wordCount cnt then (map4WordShifts cnt).getD (col - 12) .unassigned else .unassigned

theorem cell4_countCode {col : Fin 16} (h : 6 ≤ col.val) (cnt : Fin 16) :
    cell4 (countCode col cnt) = shiftCell col cnt := by
  simp only [cell4, ofNat_div_countCode, countCode_mod, Nat.not_lt.2 h, if_false, shiftCell]

/-! ## Opcodes -/

/-- An opcode without the PREFIX byte, the cell of the maps that stands there, and its `ES:` form where it has one. -/
inductive Cells (core : CpuCore) : List Byte → Form → Option Form → Prop
  | first {b : Byte} (h61 : b ≠ 0x61) (h71 : b ≠ 0x71) (h31 : b ≠ 0x31) :
      Cells core [b] (cellAt map1 b) ((esForms1a ++ esForms1b).lookup b.toNat)
  | second (c : Byte) : Cells core [0x61, c] (cellAt (map2 core) c) (esForms2.lookup c.toNat)
  | thirdLow (col : Fin 16) (bit : Fin 8) :
      Cells core [0x71, lowCode col bit] ((map3Low bit).getD col .unassigned) ((esForms3Low bit).lookup col.val)
  | thirdHigh (col : Fin 16) (bit : Fin 8) :
      Cells core [0x71, highCode col bit] ((map3High bit).getD col .unassigned) ((esForms3High bit).lookup col.val)
  | fourthLow {col : Fin 16} (h : col.val < 6) (bit : Fin 8) :
      Cells core [0x31, lowCode col bit] ((map4Low bit).getD col .unassigned) none
  | fourthHigh {col : Fin 16} (h : col.val < 6) (bit : Fin 8) :
      Cells core [0x31, highCode col bit] ((map4High bit).getD col .unassigned) ((esForms4High bit).lookup col.val)
  | shift {col : Fin 16} (h : 6 ≤ col.val) (cnt : Fin 16) :
      Cells core [0x31, countCode col cnt] (shiftCell col cnt) none

/-- Bytes that end inside the opcode. -/
def EndsInOpcode (bytes : List Byte) : Prop := bytes = [] ∨ bytes = [0x61] ∨ bytes = [0x71] ∨ bytes = [0x31]

section
variable {core : CpuCore} {op : List Byte} {f : Form} {e : Option Form}

theorem exists_cells_third (core : CpuCore) (c : Byte) : ∃ f e, Cells core [0x71, c] f e := by
  obtain ⟨col, bit, rfl | rfl⟩ := exists_lowCode_or_highCode c
  · exact ⟨_, _, .thirdLow col bit⟩
  · exact ⟨_, _, .thirdHigh col bit⟩

theorem exists_cells_fourth (core : CpuCore) (c : Byte) : ∃ f e, Cells core [0x31, c] f e := by
  by_cases hcol : c.toNat % 16 < 6
  · obtain ⟨col, bit, rfl | rfl⟩ := exists_lowCode_or_highCode c
    · exact ⟨_, _, .fourthLow (lowCode_mod col bit ▸ hcol) bit⟩
    · exact ⟨_, _, .fourthHigh (highCode_mod col bit ▸ hcol) bit⟩
  · obtain ⟨col, cnt, rfl⟩ := exists_countCode c
    exact ⟨_, _, .shift (countCode_mod col cnt ▸ Nat.not_lt.1 hcol) cnt⟩

/-- Bytes end inside an opcode or begin with one. -/
theorem exists_cells (core : CpuCore) (bytes : List Byte) :
    EndsInOpcode bytes ∨ ∃ op f e rest, Cells core op f e ∧ bytes = op ++ rest := by
  rcases bytes with _ | ⟨b, rest⟩
  · exact .inl (.inl rfl)
  by_cases h : b ≠ 0x61 ∧ b ≠ 0x71 ∧ b ≠ 0x31
  · obtain ⟨h61, h71, h31⟩ := h
    exact .inr ⟨[b], _, _, rest, .first h61 h71 h31, rfl⟩
  have hb : b = 0x61 ∨ b = 0x71 ∨ b = 0x31 := by tauto
  rcases rest with _ | ⟨c, rest⟩
  · exact .inl (.inr (by simpa using hb))
  refine .inr ?_
  obtain rfl | rfl | rfl := hb
  · exact ⟨_, _, _, rest, .second c, rfl⟩
  · obtain ⟨f, e, hc⟩ := exists_cells_third core c
    exact ⟨_, f, e, rest, hc, rfl⟩
  · obtain ⟨f, e, hc⟩ := exists_cells_fourth core c
    exact ⟨_, f, e, rest, hc, rfl⟩

/-- Decoding an opcode reads the operands of its cell. -/
theorem Cells.decode_eq (h : Cells core op f e) (hp : op ≠ [0x11]) (rest : List Byte) :
    decode core (op ++ rest) = readForm core op.length f rest := by
  cases h with
  | @first b h61 h71 h31 =>
    have h11 : b ≠ 0x11 := fun hb => hp (by rw [hb])
    exact (if_neg h11).trans ((if_neg h61).trans ((if_neg h71).trans (if_neg h31)))
  | second c => rfl
  | thirdLow col bit => rw [← cell3_lowCode]; rfl
  | thirdHigh col bit => rw [← cell3_highCode]; rfl
  | fourthLow hcol bit => rw [← cell4_lowCode hcol]; rfl
  | fourthHigh hcol bit => rw [← cell4_highCode hcol]; rfl
  | shift hcol cnt => rw [← cell4_countCode hcol]; rfl

/-- The `ES:` forms of the 3rd map at a byte after 71H. -/
noncomputable def esForm3 (c : Byte) : Option Form :=
  let bit : Fin 8 := Fin.ofNat 8 (c.toNat / 16)
  (if c.toNat < 0x80 then esForms3Low bit else esForms3High bit).lookup (c.toNat % 16)

/-- The `ES:` forms of the 4th map at a byte after 31H. -/
noncomputable def esForm4 (c : Byte) : Option Form :=
  if c.toNat < 0x80 then none else (esForms4High (Fin.ofNat 8 (c.toNat / 16))).lookup (c.toNat % 16)

theorem esForm3_lowCode (col : Fin 16) (bit : Fin 8) :
    esForm3 (lowCode col bit) = (esForms3Low bit).lookup col.val := by
  simp only [esForm3, ofNat_div_lowCode, lowCode_mod, lowCode_lt, if_true]

theorem esForm3_highCode (col : Fin 16) (bit : Fin 8) :
    esForm3 (highCode col bit) = (esForms3High bit).lookup col.val := by
  simp only [esForm3, ofNat_div_highCode, highCode_mod, highCode_not_lt, if_false]

theorem esForm4_lowCode (col : Fin 16) (bit : Fin 8) : esForm4 (lowCode col bit) = none :=
  if_pos (lowCode_lt col bit)

theorem esForm4_highCode (col : Fin 16) (bit : Fin 8) :
    esForm4 (highCode col bit) = (esForms4High bit).lookup col.val := by
  simp only [esForm4, ofNat_div_highCode, highCode_mod, highCode_not_lt, if_false]

theorem esForm4_countCode {col : Fin 16} (h : 6 ≤ col.val) (cnt : Fin 16) : esForm4 (countCode col cnt) = none := by
  simp only [esForm4, countCode_mod, ite_eq_left_iff]
  intro _
  exact List.lookup_eq_none_iff.2 (by simp [esForms4High]; omega)

/-- Decoding an opcode after the PREFIX byte reads the operands of its `ES:` form. -/
theorem Cells.decode_es (h : Cells core op f e) (rest : List Byte) :
    decode core (0x11 :: (op ++ rest)) = readEsForm core (op.length + 1) e rest := by
  cases h with
  | first h61 h71 h31 => exact (if_neg h61).trans ((if_neg h71).trans (if_neg h31))
  | second c => rfl
  | thirdLow col bit => rw [← esForm3_lowCode]; rfl
  | thirdHigh col bit => rw [← esForm3_highCode]; rfl
  | @fourthLow col hcol bit => rw [← esForm4_lowCode col bit]; rfl
  | @fourthHigh col hcol bit => rw [← esForm4_highCode]; rfl
  | shift hcol cnt => rw [← esForm4_countCode hcol cnt]; rfl

theorem decode_of_endsInOpcode {bytes : List Byte} (h : EndsInOpcode bytes) :
    decode core bytes = .error .truncated := by
  obtain rfl | rfl | rfl | rfl := h <;> rfl

theorem decode_es_of_endsInOpcode {bytes : List Byte} (h : EndsInOpcode bytes) :
    decode core (0x11 :: bytes) = .error .truncated := by
  obtain rfl | rfl | rfl | rfl := h <;> rfl

end
end Sys2Proof.Opcodes
end

section
/-!
PROOFS. Every cell of the opcode maps and every `ES:` form holds well-formed instructions whose encodings are its opcode
and their operand bytes, row by row. So what decodes is the encoding of a well-formed instruction.
-/

namespace Sys2Proof.Opcodes

open Sys2Proof.Machine Sys2Proof.Forms

section
variable {core : CpuCore} {op : List Byte}

/-- `i` is an instruction of the core and `bytes` are its encoding. -/
structure Spells (core : CpuCore) (i : Instr) (bytes : List Byte) : Prop where
  wf : i.wf core = true
  encode_eq : encode i = bytes

/-- What is read as the instruction `i` of length `n` is the encoding of `i`, and `i` an instruction of the core. -/
def ReadsEncoding (core : CpuCore) (bytes : List Byte) (r : Except DecodeError (Instr × Nat)) : Prop :=
  ∀ i n, r = .ok (i, n) → i.wf core = true ∧ n = (encode i).length ∧ bytes.take n = encode i

/-- What a cell with the opcode `op` reads is the encoding of an instruction. -/
def Sound (core : CpuCore) (op : List Byte) (f : Form) : Prop :=
  ∀ rest, ReadsEncoding core (op ++ rest) (readForm core op.length f rest)

theorem readsEncoding_error {bytes : List Byte} {err : DecodeError} : ReadsEncoding core bytes (.error err) :=
  nofun

theorem Spells.readsEncoding {i : Instr} {ops : List Byte} (h : Spells core i (op ++ ops)) (rest : List Byte) {n : Nat}
    (hn : n = op.length + ops.length) : ReadsEncoding core (op ++ (ops ++ rest)) (.ok (i, n)) := by
  rintro _ _ ⟨⟩
  obtain ⟨hwf, he⟩ := h
  have hlen : n = (encode i).length := by rw [he, hn, List.length_append]
  exact ⟨hwf, hlen, by rw [hlen, ← List.append_assoc, ← he, List.take_left]⟩

/-! ## What a cell holds -/

/-- The operand bytes `adrl adrh adrs` of a 20-bit address (30_encoding.md R102). -/
def addr20Bytes (t : Addr) : List Byte := [t.extractLsb' 0 8, t.extractLsb' 8 8, 0#4 ++ t.extractLsb' 16 4]

theorem addr20Bytes_addrOf (l h : Byte) {s : Byte} (hs : s.extractLsb' 4 4 = 0) :
    addr20Bytes (addrOf (s.extractLsb' 0 4) (wordOf h l)) = [l, h, s] := by
  have hs' : s.toNat / 16 = 0 := by
    have := congrArg BitVec.toNat hs
    simp [Nat.shiftRight_eq_div_pow] at this
    omega
  have ht : (addrOf (s.extractLsb' 0 4) (wordOf h l)).toNat = 65536 * s.toNat + 256 * h.toNat + l.toNat := by
    rw [addrOf_toNat, wordOf_toNat]
    simp
    omega
  have hlow : (addrOf (s.extractLsb' 0 4) (wordOf h l)).extractLsb' 0 8 = l := by
    apply BitVec.eq_of_toNat_eq; simp [ht]; omega
  have hhigh : (addrOf (s.extractLsb' 0 4) (wordOf h l)).extractLsb' 8 8 = h := by
    apply BitVec.eq_of_toNat_eq; simp [ht, Nat.shiftRight_eq_div_pow]; omega
  have hseg : (0#4 ++ (addrOf (s.extractLsb' 0 4) (wordOf h l)).extractLsb' 16 4 : Byte) = s := by
    apply BitVec.eq_of_toNat_eq; rw [BitVec.toNat_append]; simp [ht, Nat.shiftRight_eq_div_pow]; omega
  rw [addr20Bytes, hlow, hhigh, hseg]

theorem spells_ite {c : Prop} [Decidable c] {i j : Instr} {bytes : List Byte} :
    Spells core (if c then i else j) bytes ↔ (c → Spells core i bytes) ∧ (¬ c → Spells core j bytes) := by
  by_cases h : c <;> simp [h]

theorem movAccSfr_spells (sf : Byte) : Spells core (movAccSfr sf) [0x8E, sf] := by
  unfold movAccSfr
  split_ifs with hpsw hcs hes <;> subst_vars
  · exact ⟨rfl, rfl⟩
  · exact ⟨rfl, rfl⟩
  · exact ⟨rfl, rfl⟩
  · exact ⟨show generalAccSfr sf = true by simp [generalAccSfr, hpsw, hcs, hes], rfl⟩

theorem movSfrAcc_spells (sf : Byte) : Spells core (movSfrAcc sf) [0x9E, sf] := by
  unfold movSfrAcc
  split_ifs with hpsw hcs hes <;> subst_vars
  · exact ⟨rfl, rfl⟩
  · exact ⟨rfl, rfl⟩
  · exact ⟨rfl, rfl⟩
  · exact ⟨show generalAccSfr sf = true by simp [generalAccSfr, hpsw, hcs, hes], rfl⟩

theorem movImmSfr_spells {sf data : Byte} {i : Instr} (h : movImmSfr core sf data = some i) :
    Spells core i [0xCE, sf, data] := by
  unfold movImmSfr at h
  split_ifs at h with hpsw hcs hs3 <;> obtain rfl := Option.some.inj h
  · exact ⟨rfl, by rw [hpsw]; rfl⟩
  · exact ⟨rfl, by rw [hcs]; rfl⟩
  any_goals
    obtain ⟨rfl, rfl⟩ := hs3
    subst_vars
    exact ⟨rfl, rfl⟩
  · have hgeneral : generalImmSfr core sf = true := by
      simpa [generalImmSfr, hpsw, hcs, and_comm, imp_iff_not_or] using hs3
    exact ⟨hgeneral, rfl⟩

/-- Every instruction of the cell has the opcode `op` and the operand bytes it was read from as its encoding. -/
def Spelled (core : CpuCore) (op : List Byte) : Form → Prop
  | .unassigned => True
  | .fixed i => Spells core i op
  | .byte g => ∀ b, Spells core (g b) (op ++ [b])
  | .word g => ∀ w, Spells core (g w) (op ++ [lowByte w, highByte w])
  | .byteByte g => ∀ b d, Spells core (g b d) (op ++ [b, d])
  | .wordByte g => ∀ w d, Spells core (g w d) (op ++ [lowByte w, highByte w, d])
  | .byteWord g => ∀ b w, Spells core (g b w) (op ++ [b, lowByte w, highByte w])
  | .addr20 g => ∀ t, Spells core (g t) (op ++ addr20Bytes t)
  | .immSfr => ∀ sf d i, movImmSfr core sf d = some i → Spells core i (op ++ [sf, d])

/-- A spelled cell reads nothing but encodings: the operand bytes are those the instruction was built from. -/
theorem Spelled.sound : ∀ {f : Form}, Spelled core op f → Sound core op f
  | .unassigned, _, _ => readsEncoding_error
  | .fixed _, h, rest => Spells.readsEncoding (ops := []) (by rwa [List.append_nil]) rest rfl
  | .byte _, _, [] => readsEncoding_error
  | .byte _, h, b :: rest => (h b).readsEncoding rest rfl
  | .word _, _, [] | .word _, _, [_] => readsEncoding_error
  | .word _, h, l :: hi :: rest =>
      Spells.readsEncoding (ops := [l, hi]) (by simpa using h (wordOf hi l)) rest rfl
  | .byteByte _, _, [] | .byteByte _, _, [_] => readsEncoding_error
  | .byteByte _, h, b :: d :: rest => (h b d).readsEncoding rest rfl
  | .wordByte _, _, [] | .wordByte _, _, [_] | .wordByte _, _, [_, _] => readsEncoding_error
  | .wordByte _, h, l :: hi :: d :: rest =>
      Spells.readsEncoding (ops := [l, hi, d]) (by simpa using h (wordOf hi l) d) rest rfl
  | .byteWord _, _, [] | .byteWord _, _, [_] | .byteWord _, _, [_, _] => readsEncoding_error
  | .byteWord _, h, b :: l :: hi :: rest =>
      Spells.readsEncoding (ops := [b, l, hi]) (by simpa using h b (wordOf hi l)) rest rfl
  | .addr20 _, _, [] | .addr20 _, _, [_] | .addr20 _, _, [_, _] => readsEncoding_error
  | .addr20 _, h, l :: hi :: s :: rest => by
      simp only [readForm]
      split_ifs with hs
      · exact Spells.readsEncoding (ops := [l, hi, s]) (addr20Bytes_addrOf l hi hs ▸ h _) rest rfl
      · exact readsEncoding_error
  | .immSfr, _, [] | .immSfr, _, [_] => readsEncoding_error
  | .immSfr, h, sf :: d :: rest => by
      simp only [readForm]
      split
      · next i hi => exact (h sf d i hi).readsEncoding rest rfl
      · exact readsEncoding_error

/-! ## Rows -/

/-- The cells of a row are spelled, those of column `c` with the opcode `op (k + c)`. -/
def RowSpelled (core : CpuCore) (op : Nat → List Byte) (k : Nat) (row : List Form) : Prop :=
  ∀ c, Spelled core (op (k + c)) (row.getD c .unassigned)

/-- The rows of a map are spelled, the first with the opcodes from `op (16 * r)` on. -/
def MapSpelled (core : CpuCore) (op : Nat → List Byte) (r : Nat) (rows : List (List Form)) : Prop :=
  ∀ q, RowSpelled core op (16 * (r + q)) (rows.getD q [])

theorem rowSpelled_nil {o : Nat → List Byte} {k : Nat} : RowSpelled core o k [] ↔ True :=
  iff_true_intro fun _ => trivial

theorem rowSpelled_cons {o : Nat → List Byte} {k : Nat} {f : Form} {row : List Form} :
    RowSpelled core o k (f :: row) ↔ Spelled core (o k) f ∧ RowSpelled core o (k + 1) row := by
  constructor
  · intro h
    exact ⟨h 0, fun c => Nat.add_right_comm k 1 c ▸ h (c + 1)⟩
  · rintro ⟨hf, hrow⟩ (_ | c)
    · exact hf
    · exact Nat.add_right_comm k 1 c ▸ hrow c

theorem mapSpelled_nil {o : Nat → List Byte} {r : Nat} : MapSpelled core o r [] ↔ True :=
  iff_true_intro fun _ => rowSpelled_nil.2 trivial

theorem mapSpelled_cons {o : Nat → List Byte} {r : Nat} {row : List Form} {rows : List (List Form)} :
    MapSpelled core o r (row :: rows) ↔ RowSpelled core o (16 * r) row ∧ MapSpelled core o (r + 1) rows := by
  constructor
  · intro h
    exact ⟨h 0, fun q => Nat.add_right_comm r 1 q ▸ h (q + 1)⟩
  · rintro ⟨hrow, hrows⟩ (_ | q)
    · exact hrow
    · exact Nat.add_right_comm r 1 q ▸ hrows q

theorem MapSpelled.cellAt {o : Nat → List Byte} {rows : List (List Form)} (h : MapSpelled core o 0 rows) (b : Byte) :
    Spelled core (o b.toNat) (cellAt rows b) := by
  have hc := h (b.toNat / 16) (b.toNat % 16)
  rwa [Nat.zero_add, Nat.div_add_mod] at hc

theorem spelled_ite {c : Prop} [Decidable c] {op : List Byte} {f g : Form} :
    Spelled core op (if c then f else g) ↔ (c → Spelled core op f) ∧ (¬ c → Spelled core op g) := by
  by_cases h : c <;> simp [h]

/-- The `ES:` forms of a list are spelled, that of the key `k` with the opcode `op k` after the PREFIX byte. -/
def FormsSpelled (core : CpuCore) (op : Nat → List Byte) (forms : List (Nat × Form)) : Prop :=
  ∀ p ∈ forms, Spelled core (0x11 :: op p.1) p.2

theorem mem_of_lookup {forms : List (Nat × Form)} {k : Nat} {f : Form} (h : forms.lookup k = some f) :
    (k, f) ∈ forms := by
  obtain ⟨before, after, rfl, -⟩ := List.lookup_eq_some_iff.1 h
  simp

theorem FormsSpelled.lookup {o : Nat → List Byte} {forms : List (Nat × Form)} (h : FormsSpelled core o forms) {k : Nat}
    {f : Form} (hf : forms.lookup k = some f) : Spelled core (0x11 :: o k) f :=
  h (k, f) (mem_of_lookup hf)

/-! ## The opcode bytes of each map -/

def firstOp (k : Nat) : List Byte := [BitVec.ofNat 8 k]

def secondOp (k : Nat) : List Byte := [0x61, BitVec.ofNat 8 k]

def thirdLowOp (bit : Fin 8) (col : Nat) : List Byte := [0x71, lowCode (Fin.ofNat 16 col) bit]

def thirdHighOp (bit : Fin 8) (col : Nat) : List Byte := [0x71, highCode (Fin.ofNat 16 col) bit]

def fourthLowOp (bit : Fin 8) (col : Nat) : List Byte := [0x31, lowCode (Fin.ofNat 16 col) bit]

def fourthHighOp (bit : Fin 8) (col : Nat) : List Byte := [0x31, highCode (Fin.ofNat 16 col) bit]

def shiftOp (cnt : Fin 16) (col : Nat) : List Byte := [0x31, countCode (Fin.ofNat 16 col) cnt]

/-! ## The four maps -/

/-- Left over are the cells with rows of their own for some sfr bytes or for the address of SP (30_encoding.md R114,
R115), in the map's order: 8E, 9E, AE, BE, CB, CE, DB, EB, FB. -/
theorem map1_spelled : MapSpelled core firstOp 0 map1 := by
  simp only [map1, List.cons_append, List.nil_append, mapSpelled_cons, mapSpelled_nil, rowSpelled_cons, rowSpelled_nil,
    map1Row0, map1Row1, map1Row2, map1Row3, map1Row4, map1Row5, map1Row6, map1Row7, map1Row8, map1Row9, map1RowA,
    map1RowB, map1RowC, map1RowD, map1RowE, map1RowF, Spelled, spells_ite, forall_and, and_true, true_and]
  split_ands <;> intros <;> subst_vars <;> try exact ⟨rfl, rfl⟩
  · exact movAccSfr_spells _
  · exact movSfrAcc_spells _
  · exact ⟨bne_iff_ne.2 ‹_›, rfl⟩
  · exact ⟨bne_iff_ne.2 ‹_›, rfl⟩
  · exact ⟨bne_iff_ne.2 ‹_›, rfl⟩
  · exact movImmSfr_spells ‹_›
  · exact ⟨bne_iff_ne.2 ‹_›, rfl⟩
  · exact ⟨bne_iff_ne.2 ‹_›, rfl⟩
  · exact ⟨bne_iff_ne.2 ‹_›, rfl⟩

/-- Left over are the four cells of SEL, which no S1 has. -/
theorem map2_spelled : MapSpelled core secondOp 0 (map2 core) := by
  simp only [map2, List.cons_append, List.nil_append, mapSpelled_cons, mapSpelled_nil, rowSpelled_cons, rowSpelled_nil,
    map2Row0, map2Row1, map2Row2, map2Row3, map2Row4, map2Row5, map2Row6, map2Row7, map2Row8, map2Row9, map2RowA,
    map2RowB, map2RowC, map2RowD, map2RowE, map2RowF, selForm, spelled_ite]
  simp only [Spelled, and_true, true_and, implies_true]
  split_ands <;> intros <;> try exact ⟨rfl, rfl⟩
  all_goals exact ⟨bne_iff_ne.2 ‹_›, rfl⟩

theorem map3Low_spelled (bit : Fin 8) : RowSpelled core (thirdLowOp bit) 0 (map3Low bit) := by
  simp only [map3Low, rowSpelled_cons, rowSpelled_nil, Spelled, spells_ite, forall_and, and_true]
  split_ands <;> intros <;> subst_vars <;> try exact ⟨rfl, rfl⟩
  all_goals exact ⟨bne_iff_ne.2 ‹_›, rfl⟩

theorem map3High_spelled (bit : Fin 8) : RowSpelled core (thirdHighOp bit) 0 (map3High bit) := by
  simp only [map3High, rowSpelled_cons, rowSpelled_nil, spelled_ite]
  simp only [Spelled, and_true, implies_true]
  split_ands <;> intros <;> subst_vars <;> exact ⟨rfl, rfl⟩

theorem map4Low_spelled (bit : Fin 8) : RowSpelled core (fourthLowOp bit) 0 (map4Low bit) := by
  simp only [map4Low, rowSpelled_cons, rowSpelled_nil, Spelled, and_true]
  split_ands <;> intros <;> exact ⟨rfl, rfl⟩

theorem map4High_spelled (bit : Fin 8) : RowSpelled core (fourthHighOp bit) 0 (map4High bit) := by
  simp only [map4High, rowSpelled_cons, rowSpelled_nil, Spelled, spells_ite, forall_and, and_true]
  split_ands <;> intros <;> subst_vars <;> try exact ⟨rfl, rfl⟩
  all_goals exact ⟨bne_iff_ne.2 ‹_›, rfl⟩

theorem map4ByteShifts_spelled {cnt : Fin 16} (h : byteCount cnt = true) :
    RowSpelled core (shiftOp cnt) 7 (map4ByteShifts cnt) := by
  simp only [map4ByteShifts, rowSpelled_cons, rowSpelled_nil, Spelled, and_true]
  split_ands <;> exact ⟨h, rfl⟩

theorem map4WordShifts_spelled {cnt : Fin 16} (h : wordCount cnt = true) :
    RowSpelled core (shiftOp cnt) 12 (map4WordShifts cnt) := by
  simp only [map4WordShifts, rowSpelled_cons, rowSpelled_nil, Spelled, and_true]
  split_ands <;> exact ⟨h, rfl⟩

theorem shiftCell_spelled {col : Fin 16} (h : 6 ≤ col.val) (cnt : Fin 16) :
    Spelled core (shiftOp cnt col) (shiftCell col cnt) := by
  unfold shiftCell
  split_ifs with h6 h12 hb hw
  · trivial
  · have hc := map4ByteShifts_spelled (core := core) hb (col - 7)
    rwa [show 7 + (col.val - 7) = col by omega] at hc
  · trivial
  · have hc := map4WordShifts_spelled (core := core) hw (col - 12)
    rwa [show 12 + (col.val - 12) = col by omega] at hc
  · trivial

/-! ## The `ES:` forms -/

theorem esForms1_spelled : FormsSpelled core firstOp (esForms1a ++ esForms1b) := by
  simp only [FormsSpelled, esForms1a, esForms1b, List.cons_append, List.nil_append, List.forall_mem_cons, Spelled,
    List.not_mem_nil, false_implies, implies_true, and_true]
  split_ands <;> intros <;> exact ⟨rfl, rfl⟩

theorem esForms2_spelled : FormsSpelled core secondOp esForms2 := by
  simp only [FormsSpelled, esForms2, List.forall_mem_cons, Spelled, List.not_mem_nil, false_implies, implies_true,
    and_true]
  split_ands <;> intros <;> exact ⟨rfl, rfl⟩

theorem esForms3Low_spelled (bit : Fin 8) : FormsSpelled core (thirdLowOp bit) (esForms3Low bit) := by
  simp only [FormsSpelled, esForms3Low, List.forall_mem_cons, Spelled, List.not_mem_nil, false_implies, implies_true,
    and_true]
  split_ands <;> intros <;> exact ⟨rfl, rfl⟩

theorem esForms3High_spelled (bit : Fin 8) : FormsSpelled core (thirdHighOp bit) (esForms3High bit) := by
  simp only [FormsSpelled, esForms3High, List.forall_mem_cons, Spelled, List.not_mem_nil, false_implies, implies_true,
    and_true]
  split_ands <;> exact ⟨rfl, rfl⟩

theorem esForms4High_spelled (bit : Fin 8) : FormsSpelled core (fourthHighOp bit) (esForms4High bit) := by
  simp only [FormsSpelled, esForms4High, List.forall_mem_cons, Spelled, List.not_mem_nil, false_implies, implies_true,
    and_true]
  split_ands <;> intros <;> exact ⟨rfl, rfl⟩

/-! ## Every cell -/

theorem Cells.spelled {f : Form} {e : Option Form} (h : Cells core op f e) : Spelled core op f := by
  cases h with
  | @first b => simpa [firstOp] using map1_spelled.cellAt (core := core) b
  | second c => simpa [secondOp] using map2_spelled.cellAt (core := core) c
  | thirdLow col bit => simpa [thirdLowOp] using map3Low_spelled (core := core) bit col
  | thirdHigh col bit => simpa [thirdHighOp] using map3High_spelled (core := core) bit col
  | @fourthLow col _ bit => simpa [fourthLowOp] using map4Low_spelled (core := core) bit col
  | @fourthHigh col _ bit => simpa [fourthHighOp] using map4High_spelled (core := core) bit col
  | shift hcol cnt => simpa [shiftOp] using shiftCell_spelled (core := core) hcol cnt

theorem Cells.es_spelled {f g : Form} {e : Option Form} (h : Cells core op f e) (he : e = some g) :
    Spelled core (0x11 :: op) g := by
  cases h with
  | first => simpa [firstOp] using esForms1_spelled.lookup (core := core) he
  | second c => simpa [secondOp] using esForms2_spelled.lookup (core := core) he
  | thirdLow col bit => simpa [thirdLowOp] using (esForms3Low_spelled (core := core) bit).lookup he
  | thirdHigh col bit => simpa [thirdHighOp] using (esForms3High_spelled (core := core) bit).lookup he
  | fourthLow => cases he
  | @fourthHigh col _ bit => simpa [fourthHighOp] using (esForms4High_spelled (core := core) bit).lookup he
  | shift => cases he

/-- What follows the PREFIX byte reads as its `ES:` form, or as the PREFIX byte alone. -/
theorem decode_es_readsEncoding (bytes : List Byte) :
    ReadsEncoding core (0x11 :: bytes) (decode core (0x11 :: bytes)) := by
  obtain h | ⟨op, f, e, rest, h, rfl⟩ := exists_cells core bytes
  · rw [decode_es_of_endsInOpcode h]
    exact readsEncoding_error
  rw [h.decode_es]
  cases he : e with
  | none =>
    rintro _ _ ⟨⟩
    exact ⟨rfl, rfl, rfl⟩
  | some g => exact (h.es_spelled he).sound rest

theorem decode_readsEncoding (bytes : List Byte) : ReadsEncoding core bytes (decode core bytes) := by
  obtain h | ⟨op, f, e, rest, h, rfl⟩ := exists_cells core bytes
  · rw [decode_of_endsInOpcode h]
    exact readsEncoding_error
  by_cases hp : op = [0x11]
  · rw [hp]
    exact decode_es_readsEncoding rest
  · rw [h.decode_eq hp]
    exact h.spelled.sound rest

end

/-- Settles O2, through the cell of the opcode maps that the bytes begin with. -/
theorem decodedBytesAreTheEncoding : Obligations.DecodedBytesAreTheEncoding :=
  fun _ bytes i n h => decode_readsEncoding bytes i n h

end Sys2Proof.Opcodes
end

section
/-!
PROOFS. Every well-formed instruction decodes from its encoding: its opcode leads to its own cell, and the operand bytes
there give its operands back.
-/

namespace Sys2Proof.Opcodes

open Sys2Proof.Machine Sys2Proof.Forms

section
variable {core : CpuCore} {bytes rest : List Byte} {n : Nat}

/-! ## Opcodes with a bit number or a shift count -/

theorem add_bitField_low {c : Byte} (hc : c.toNat < 16) (bit : Fin 8) :
    c + bitField bit = lowCode ⟨c.toNat, hc⟩ bit := by
  simp [lowCode]

theorem add_bitField_high {c : Byte} (hc : c.toNat / 16 = 8) (bit : Fin 8) :
    c + bitField bit = highCode ⟨c.toNat % 16, Nat.mod_lt _ (by decide)⟩ bit := by
  simp [highCode, show 128 + c.toNat % 16 = c.toNat by omega]

theorem add_cntField {c : Byte} (hc : c.toNat < 16) (cnt : Fin 16) :
    c + cntField cnt = countCode ⟨c.toNat, hc⟩ cnt := by
  simp [countCode]

theorem decode_thirdLow {c : Byte} (hc : c.toNat < 16) (bit : Fin 8) :
    decode core (0x71 :: (c + bitField bit) :: rest)
      = readForm core 2 ((map3Low bit).getD c.toNat .unassigned) rest := by
  rw [add_bitField_low hc]
  exact (Cells.thirdLow _ bit).decode_eq nofun rest

theorem decode_thirdHigh {c : Byte} (hc : c.toNat / 16 = 8) (bit : Fin 8) :
    decode core (0x71 :: (c + bitField bit) :: rest)
      = readForm core 2 ((map3High bit).getD (c.toNat % 16) .unassigned) rest := by
  rw [add_bitField_high hc]
  exact (Cells.thirdHigh _ bit).decode_eq nofun rest

theorem decode_fourthLow {c : Byte} (hc : c.toNat < 6) (bit : Fin 8) :
    decode core (0x31 :: (c + bitField bit) :: rest)
      = readForm core 2 ((map4Low bit).getD c.toNat .unassigned) rest := by
  rw [add_bitField_low (by omega)]
  exact (Cells.fourthLow hc bit).decode_eq nofun rest

theorem decode_fourthHigh {c : Byte} (hc : c.toNat / 16 = 8 ∧ c.toNat % 16 < 6) (bit : Fin 8) :
    decode core (0x31 :: (c + bitField bit) :: rest)
      = readForm core 2 ((map4High bit).getD (c.toNat % 16) .unassigned) rest := by
  rw [add_bitField_high hc.1]
  exact (Cells.fourthHigh hc.2 bit).decode_eq nofun rest

theorem decode_shift {c : Byte} (hc : 6 ≤ c.toNat ∧ c.toNat < 16) (cnt : Fin 16) :
    decode core (0x31 :: (c + cntField cnt) :: rest) = readForm core 2 (shiftCell ⟨c.toNat, hc.2⟩ cnt) rest := by
  rw [add_cntField hc.2]
  exact (Cells.shift hc.1 cnt).decode_eq nofun rest

theorem decode_byteShift {c : Byte} (hc : 7 ≤ c.toNat ∧ c.toNat < 12) {cnt : Fin 16} (hcnt : byteCount cnt = true) :
    decode core (0x31 :: (c + cntField cnt) :: rest)
      = readForm core 2 ((map4ByteShifts cnt).getD (c.toNat - 7) .unassigned) rest := by
  rw [decode_shift (by omega), shiftCell, if_neg (by simp only; omega), if_pos hc.2, if_pos hcnt]

theorem decode_wordShift {c : Byte} (hc : 12 ≤ c.toNat ∧ c.toNat < 16) {cnt : Fin 16} (hcnt : wordCount cnt = true) :
    decode core (0x31 :: (c + cntField cnt) :: rest)
      = readForm core 2 ((map4WordShifts cnt).getD (c.toNat - 12) .unassigned) rest := by
  rw [decode_shift (by omega), shiftCell, if_neg (by simp only; omega), if_neg (by simp only; omega), if_pos hcnt]

theorem decode_es_thirdLow {c : Byte} (hc : c.toNat < 16) (bit : Fin 8) :
    decode core (0x11 :: 0x71 :: (c + bitField bit) :: rest)
      = readEsForm core 3 ((esForms3Low bit).lookup c.toNat) rest := by
  rw [add_bitField_low hc]
  exact (Cells.thirdLow _ bit).decode_es rest

theorem decode_es_thirdHigh {c : Byte} (hc : c.toNat / 16 = 8) (bit : Fin 8) :
    decode core (0x11 :: 0x71 :: (c + bitField bit) :: rest)
      = readEsForm core 3 ((esForms3High bit).lookup (c.toNat % 16)) rest := by
  rw [add_bitField_high hc]
  exact (Cells.thirdHigh _ bit).decode_es rest

theorem decode_es_fourthHigh {c : Byte} (hc : c.toNat / 16 = 8 ∧ c.toNat % 16 < 6) (bit : Fin 8) :
    decode core (0x11 :: 0x31 :: (c + bitField bit) :: rest)
      = readEsForm core 3 ((esForms4High bit).lookup (c.toNat % 16)) rest := by
  rw [add_bitField_high hc.1]
  exact (Cells.fourthHigh hc.2 bit).decode_es rest

/-! ## Operands that are not the bytes themselves -/

theorem decode_word_then {α : Type} {g : Word → α → Instr} {w : Word} {a : α}
    (h : decode core bytes = .ok (g (wordOf (highByte w) (lowByte w)) a, n)) : decode core bytes = .ok (g w a, n) := by
  rwa [wordOf_highByte_lowByte] at h

theorem decode_word {g : Word → Instr} {w : Word}
    (h : decode core bytes = .ok (g (wordOf (highByte w) (lowByte w)), n)) : decode core bytes = .ok (g w, n) := by
  rwa [wordOf_highByte_lowByte] at h

/-- An operand value without a row of its own gives the cell's general row (30_encoding.md R114). -/
theorem decode_general {α : Type} [DecidableEq α] {v special : α} {i j : Instr} (hv : (v != special) = true)
    (h : decode core bytes = .ok (if v = special then j else i, n)) : decode core bytes = .ok (i, n) := by
  rwa [if_neg (bne_iff_ne.1 hv)] at h

theorem movAccSfr_eq_general {sf : Byte} (h : generalAccSfr sf = true) : movAccSfr sf = .movASfr sf := by
  simp only [generalAccSfr, Bool.and_eq_true, bne_iff_ne] at h
  simp only [movAccSfr, h, if_false]

theorem movSfrAcc_eq_general {sf : Byte} (h : generalAccSfr sf = true) : movSfrAcc sf = .movSfrA sf := by
  simp only [generalAccSfr, Bool.and_eq_true, bne_iff_ne] at h
  simp only [movSfrAcc, h, if_false]

theorem movImmSfr_eq_general {sf data : Byte} (h : generalImmSfr core sf = true) :
    movImmSfr core sf data = some (.movSfrImm sf data) := by
  simp [generalImmSfr] at h
  simp [movImmSfr, h]
  tauto

theorem readForm_addr20 (core : CpuCore) (rest : List Byte) {g : Addr → Instr} (t : Addr) :
    readForm core n (.addr20 g) (addr20Bytes t ++ rest) = .ok (g t, n + 3) := by
  have hseg : (0#4 ++ t.extractLsb' 16 4 : Byte).toNat = t.toNat / 65536 := by
    rw [BitVec.toNat_append]
    simp [Nat.shiftRight_eq_div_pow]
    omega
  have hhigh : (0#4 ++ t.extractLsb' 16 4 : Byte).extractLsb' 4 4 = 0 := by
    apply BitVec.eq_of_toNat_eq
    simp [hseg, Nat.shiftRight_eq_div_pow]
    omega
  have haddr : addrOf ((0#4 ++ t.extractLsb' 16 4 : Byte).extractLsb' 0 4)
      (wordOf (t.extractLsb' 8 8) (t.extractLsb' 0 8)) = t := by
    apply BitVec.eq_of_toNat_eq
    rw [addrOf_toNat, wordOf_toNat]
    simp [hseg, Nat.shiftRight_eq_div_pow]
    omega
  simp only [addr20Bytes, List.cons_append, List.nil_append, readForm]
  rw [if_pos hhigh, haddr]

theorem decode_immSfr {sf data : Byte} {i : Instr} (h : movImmSfr core sf data = some i) :
    decode core (0xCE :: sf :: data :: rest) = .ok (i, 3) := by
  have hd : decode core (0xCE :: sf :: data :: rest) = readForm core 1 .immSfr (sf :: data :: rest) := rfl
  rw [hd]
  simp only [readForm, h]

/-! ## Every instruction -/

theorem decode_encode {i : Instr} (rest : List Byte) (hwf : i.wf core = true) (hp : i ≠ .prefixByte) :
    decode core (encode i ++ rest) = .ok (i, (encode i).length) := by
  cases i with
  | prefixByte => exact absurd rfl hp
  -- a register in the opcode
  | addRA r | addcRA r | subRA r | subcRA r | cmpRA r | andRA r | orRA r | xorRA r | incR r | decR r
    | movRImm r data => cases r <;> rfl
  -- a register other than A
  | addAR r | addcAR r | subAR r | subcAR r | cmpAR r | andAR r | orAR r | xorAR r | movAR r | movRA r =>
      cases r with
      | a => cases hwf
      | _ => rfl
  -- a register other than X and A
  | xchAR r =>
      cases r with
      | x | a => cases hwf
      | _ => rfl
  -- one of X, A, C, B
  | cmp0R r | onebR r | clrbR r =>
      cases r with
      | e | d | l | h => cases hwf
      | _ => rfl
  -- a register pair in the opcode
  | addwAxRp rp | incwRp rp | decwRp rp | callRp rp | pushRp rp | popRp rp => cases rp <;> rfl
  -- a pair other than AX
  | subwAxRp rp | cmpwAxRp rp | movwAxRp rp | movwRpAx rp | xchwAxRp rp | movwRpSaddrp rp sa | movwRpSp rp =>
      cases rp with
      | ax => cases hwf
      | _ => rfl
  -- a register pair in the opcode, and a word
  | movwRpImm rp w => cases rp <;> exact decode_word rfl
  | movwRpEsAbs rp w =>
      cases rp with
      | ax => cases hwf
      | _ => exact decode_word rfl
  | movwRpAbs rp w =>
      cases rp with
      | ax => cases hwf
      | _ => exact decode_word (decode_general (by rwa [wordOf_highByte_lowByte]) rfl)
  -- a word, or a word and a byte
  | movAAbs w | movAEsAbs w | movAbsA w | movEsAbsA w | movAWordB w | movAEsWordB w | movWordBA w
    | movEsWordBA w | movAWordC w | movAEsWordC w | movWordCA w | movEsWordCA w | movAWordBc w | movAEsWordBc w
    | movWordBcA w | movEsWordBcA w | movBAbs w | movBEsAbs w | movCAbs w | movCEsAbs w | movXAbs w
    | movXEsAbs w | xchAAbs w | xchAEsAbs w | onebAbs w | onebEsAbs w | clrbAbs w | clrbEsAbs w | movwAxAbs w
    | movwAxEsAbs w | movwAbsAx w | movwEsAbsAx w | movwAxWordB w | movwAxEsWordB w | movwWordBAx w
    | movwEsWordBAx w | movwAxWordC w | movwAxEsWordC w | movwWordCAx w | movwEsWordCAx w | movwAxWordBc w
    | movwAxEsWordBc w | movwWordBcAx w | movwEsWordBcAx w | addAAbs w | addAEsAbs w | addcAAbs w | addcAEsAbs w
    | subAAbs w | subAEsAbs w | subcAAbs w | subcAEsAbs w | cmpAAbs w | cmpAEsAbs w | andAAbs w | andAEsAbs w
    | orAAbs w | orAEsAbs w | xorAAbs w | xorAEsAbs w | cmp0Abs w | cmp0EsAbs w | addwAxImm w | addwAxAbs w
    | addwAxEsAbs w | subwAxImm w | subwAxAbs w | subwAxEsAbs w | cmpwAxImm w | cmpwAxAbs w | cmpwAxEsAbs w
    | incAbs w | incEsAbs w | decAbs w | decEsAbs w | incwAbs w | incwEsAbs w | decwAbs w | decwEsAbs w
    | callRel16 w | callAbs16 w | movwSpImm w | brRel16 w | brAbs16 w => exact decode_word rfl
  | movAbsImm w data | movEsAbsImm w data | movWordBImm w data | movEsWordBImm w data | movWordCImm w data
    | movEsWordCImm w data | movWordBcImm w data | movEsWordBcImm w data | cmpAbsImm w data | cmpEsAbsImm w data =>
      exact decode_word_then rfl
  | movwSaddrpImm sa w => exact decode_word rfl
  -- an sfr byte other than that of SP
  | movwSfrpImm sf w => exact decode_word (decode_general hwf rfl)
  | movwAxSfrp sf | movwSfrpAx sf => exact decode_general hwf rfl
  -- a 20-bit address
  | callAbs20 target | brAbs20 target => exact readForm_addr20 core rest target
  -- an sfr byte without a row of its own (R114, R115)
  | movSfrImm sf data => exact decode_immSfr (movImmSfr_eq_general hwf)
  | movASfr sf => exact congrArg (fun i => Except.ok (i, 2)) (movAccSfr_eq_general hwf)
  | movSfrA sf => exact congrArg (fun i => Except.ok (i, 2)) (movSfrAcc_eq_general hwf)
  -- on S3 alone, and on every core but S1
  | mulhu | mulh | divhu | divwu | machu | mach =>
      cases core with
      | s3 => rfl
      | _ => cases hwf
  | sel n =>
      cases core with
      | s1 => cases hwf
      | _ => cases n <;> rfl
  -- a table entry in the opcode
  | callt k => fin_cases k <;> rfl
  -- a shift count in the opcode
  | shlC cnt | shlB cnt | shlA cnt | shrA cnt | sarA cnt => exact decode_byteShift (by decide) hwf
  | shlwBc cnt | shlwAx cnt | shrwAx cnt | sarwAx cnt => exact decode_wordShift (by decide) hwf
  -- a bit number in the opcode: the 3rd map
  | mov1CyPswBit bit | mov1PswBitCy bit | and1CyPswBit bit | or1CyPswBit bit | xor1CyPswBit bit
    | mov1CySaddrBit sa bit | mov1SaddrBitCy sa bit | and1CySaddrBit sa bit | or1CySaddrBit sa bit
    | xor1CySaddrBit sa bit | set1SaddrBit sa bit | clr1SaddrBit sa bit => exact decode_thirdLow (by decide) bit
  | set1AbsBit w bit | clr1AbsBit w bit => exact decode_word_then (decode_thirdLow (by decide) bit)
  | mov1CySfrBit sf bit | mov1SfrBitCy sf bit | and1CySfrBit sf bit | or1CySfrBit sf bit | xor1CySfrBit sf bit
    | set1SfrBit sf bit | clr1SfrBit sf bit | set1PswBit bit | clr1PswBit bit =>
      exact decode_general hwf (decode_thirdLow (by decide) bit)
  | mov1CyABit bit | mov1ABitCy bit | mov1CyHlBit bit | mov1HlBitCy bit | and1CyABit bit | and1CyHlBit bit
    | or1CyABit bit | or1CyHlBit bit | xor1CyABit bit | xor1CyHlBit bit | set1ABit bit | set1HlBit bit
    | clr1ABit bit | clr1HlBit bit => exact decode_thirdHigh (by decide) bit
  -- a bit number in the opcode: the 4th map
  | btSaddrBit sa bit disp | bfSaddrBit sa bit disp | btclrSaddrBit sa bit disp | btABit bit disp
    | bfABit bit disp | btclrABit bit disp => exact decode_fourthLow (by decide) bit
  | btPswBit bit disp | btHlBit bit disp | bfPswBit bit disp | bfHlBit bit disp | btclrPswBit bit disp
    | btclrHlBit bit disp => exact decode_fourthHigh (by decide) bit
  | btSfrBit sf bit disp | bfSfrBit sf bit disp | btclrSfrBit sf bit disp =>
      exact decode_general hwf (decode_fourthHigh (by decide) bit)
  -- a bit number in the opcode: the `ES:` forms
  | set1EsAbsBit w bit | clr1EsAbsBit w bit => exact decode_word_then (decode_es_thirdLow (by decide) bit)
  | mov1CyEsHlBit bit | mov1EsHlBitCy bit | and1CyEsHlBit bit | or1CyEsHlBit bit | xor1CyEsHlBit bit
    | set1EsHlBit bit | clr1EsHlBit bit => exact decode_es_thirdHigh (by decide) bit
  | btEsHlBit bit disp | bfEsHlBit bit disp | btclrEsHlBit bit disp => exact decode_es_fourthHigh (by decide) bit
  -- the operands are bytes, or there are none
  | _ => rfl

end

/-- Settles O1, by `decode_encode`: one group of rows for each way an operand stands in an encoding. -/
theorem encodeThenDecodeGivesTheInstruction : Obligations.EncodeThenDecodeGivesTheInstruction :=
  fun _ _ rest hwf hp => decode_encode rest hwf hp

end Sys2Proof.Opcodes
end

section
/-!
PROOFS. How many operand bytes a cell reads, and so what decodes after the PREFIX byte and what the blank cells leave
undecoded.
-/

namespace Sys2Proof.Opcodes

open Sys2Proof.Machine Sys2Proof.Forms

section
variable {core : CpuCore} {op : List Byte} {f g : Form} {e : Option Form} {k : Nat}

/-! ## The number of operand bytes -/

/-- How many operand bytes a cell reads; none for a blank cell and for the two that do not take every operand. -/
def operandCount : Form → Option Nat
  | .fixed _ => some 0
  | .byte _ => some 1
  | .word _ | .byteByte _ => some 2
  | .wordByte _ | .byteWord _ => some 3
  | .unassigned | .addr20 _ | .immSfr => none

/-- A cell with a number of operand bytes reads an instruction where there are so many, else it runs out of them. -/
theorem readForm_cases (core : CpuCore) (n : Nat) : ∀ {f : Form} {k : Nat}, operandCount f = some k → ∀ rest,
    rest.length < k ∧ readForm core n f rest = .error .truncated
      ∨ k ≤ rest.length ∧ ∃ i, readForm core n f rest = .ok (i, n + k)
  | .fixed i, _, rfl, _ => .inr ⟨Nat.zero_le _, i, rfl⟩
  | .byte _, _, rfl, [] => .inl ⟨by simp, rfl⟩
  | .byte g, _, rfl, b :: _ => .inr ⟨by simp, g b, rfl⟩
  | .word _, _, rfl, [] | .word _, _, rfl, [_] => .inl ⟨by simp, rfl⟩
  | .word g, _, rfl, l :: h :: _ => .inr ⟨by simp, g (wordOf h l), rfl⟩
  | .byteByte _, _, rfl, [] | .byteByte _, _, rfl, [_] => .inl ⟨by simp, rfl⟩
  | .byteByte g, _, rfl, b :: d :: _ => .inr ⟨by simp, g b d, rfl⟩
  | .wordByte _, _, rfl, [] | .wordByte _, _, rfl, [_] | .wordByte _, _, rfl, [_, _] => .inl ⟨by simp, rfl⟩
  | .wordByte g, _, rfl, l :: h :: d :: _ => .inr ⟨by simp, g (wordOf h l) d, rfl⟩
  | .byteWord _, _, rfl, [] | .byteWord _, _, rfl, [_] | .byteWord _, _, rfl, [_, _] => .inl ⟨by simp, rfl⟩
  | .byteWord g, _, rfl, b :: l :: h :: _ => .inr ⟨by simp, g b (wordOf h l), rfl⟩

/-! ## An `ES:` form reads as many operand bytes as the cell without PREFIX -/

/-- The two cells read the same number of operand bytes. -/
def SameCount (f g : Form) : Prop := ∃ k, operandCount f = some k ∧ operandCount g = some k

theorem esForms1_sameCount : ∀ p ∈ esForms1a ++ esForms1b, SameCount (cellAt map1 (BitVec.ofNat 8 p.1)) p.2 := by
  simp only [esForms1a, esForms1b, List.cons_append, List.nil_append, List.forall_mem_cons, List.not_mem_nil,
    false_implies, implies_true, and_true]
  split_ands <;> exact ⟨_, rfl, rfl⟩

theorem esForms2_sameCount : ∀ p ∈ esForms2, SameCount (cellAt (map2 core) (BitVec.ofNat 8 p.1)) p.2 := by
  simp only [esForms2, List.forall_mem_cons, List.not_mem_nil, false_implies, implies_true, and_true]
  split_ands <;> exact ⟨_, rfl, rfl⟩

theorem esForms3Low_sameCount (bit : Fin 8) :
    ∀ p ∈ esForms3Low bit, SameCount ((map3Low bit).getD p.1 .unassigned) p.2 := by
  simp only [esForms3Low, List.forall_mem_cons, List.not_mem_nil, false_implies, implies_true, and_true]
  split_ands <;> exact ⟨_, rfl, rfl⟩

theorem esForms3High_sameCount (bit : Fin 8) :
    ∀ p ∈ esForms3High bit, SameCount ((map3High bit).getD p.1 .unassigned) p.2 := by
  simp only [esForms3High, List.forall_mem_cons, List.not_mem_nil, false_implies, implies_true, and_true]
  split_ands <;> exact ⟨_, rfl, rfl⟩

theorem esForms4High_sameCount (bit : Fin 8) :
    ∀ p ∈ esForms4High bit, SameCount ((map4High bit).getD p.1 .unassigned) p.2 := by
  simp only [esForms4High, List.forall_mem_cons, List.not_mem_nil, false_implies, implies_true, and_true]
  split_ands <;> exact ⟨_, rfl, rfl⟩

theorem Cells.sameCount (h : Cells core op f e) (he : e = some g) : SameCount f g := by
  cases h with
  | @first b => simpa using esForms1_sameCount _ (mem_of_lookup he)
  | second c => simpa using esForms2_sameCount (core := core) _ (mem_of_lookup he)
  | thirdLow col bit => exact esForms3Low_sameCount bit _ (mem_of_lookup he)
  | thirdHigh col bit => exact esForms3High_sameCount bit _ (mem_of_lookup he)
  | fourthLow => cases he
  | @fourthHigh col _ bit => exact esForms4High_sameCount bit _ (mem_of_lookup he)
  | shift => cases he

theorem Cells.ne_of_operandCount (h : Cells core op f e) (hf : operandCount f = some k) : op ≠ [0x11] := by
  rintro rfl
  cases h with
  | first => cases hf

/-! ## After the PREFIX byte -/

/-- The PREFIX byte stands alone, or the bytes end too early with it and without it, or they decode both ways and the
instruction with it is one byte longer. -/
theorem decode_es_cases (core : CpuCore) (bytes : List Byte) :
    decode core (0x11 :: bytes) = .ok (.prefixByte, 1)
      ∨ decode core (0x11 :: bytes) = .error .truncated ∧ decode core bytes = .error .truncated
      ∨ ∃ i j n, decode core (0x11 :: bytes) = .ok (i, n + 1) ∧ decode core bytes = .ok (j, n) := by
  obtain h | ⟨op, f, e, rest, h, rfl⟩ := exists_cells core bytes
  · exact .inr (.inl ⟨decode_es_of_endsInOpcode h, decode_of_endsInOpcode h⟩)
  rw [h.decode_es]
  cases he : e with
  | none => exact .inl rfl
  | some g =>
    obtain ⟨k, hf, hg⟩ := h.sameCount he
    rw [h.decode_eq (h.ne_of_operandCount hf)]
    refine .inr ?_
    obtain ⟨hlt, hf⟩ | ⟨hle, j, hf⟩ := readForm_cases core op.length hf rest
    · obtain ⟨-, hg⟩ | ⟨hle, -⟩ := readForm_cases core (op.length + 1) hg rest
      · exact .inl ⟨hg, hf⟩
      · omega
    · obtain ⟨hlt, -⟩ | ⟨-, i, hg⟩ := readForm_cases core (op.length + 1) hg rest
      · omega
      · exact .inr ⟨i, j, op.length + k, by rw [Nat.add_right_comm]; exact hg, hf⟩

theorem encode_eq_cons_of_decode_both {bytes : List Byte} {i j : Instr} {n : Nat}
    (hi : decode core (0x11 :: bytes) = .ok (i, n + 1)) (hj : decode core bytes = .ok (j, n)) :
    encode i = 0x11 :: encode j := by
  obtain ⟨-, -, hi⟩ := decode_readsEncoding _ _ _ hi
  obtain ⟨-, -, hj⟩ := decode_readsEncoding _ _ _ hj
  rw [← hi, ← hj, List.take_succ_cons]

end

/-- Settles O5, by the three ways of decoding after the PREFIX byte. -/
theorem prefixWithoutEsFormIsRefused : Obligations.PrefixWithoutEsFormIsRefused := by
  refine ⟨fun _ => rfl, fun _ => rfl, fun _ _ => rfl, ?_, ?_, ?_⟩
  · intro core bytes i n hi hp
    obtain h | ⟨h, -⟩ | ⟨i', j, m, h, hj⟩ := decode_es_cases core bytes <;> obtain ⟨rfl, rfl⟩ := h.symm.trans hi
    · exact absurd rfl hp
    · exact ⟨j, hj, encode_eq_cons_of_decode_both hi hj⟩
  · intro core bytes j n hj hnone
    obtain h | ⟨-, h⟩ | ⟨i, j', m, hi, h⟩ := decode_es_cases core bytes
    · exact h
    · cases h.symm.trans hj
    · cases h.symm.trans hj
      exact absurd ⟨i, encode_eq_cons_of_decode_both hi hj⟩ hnone
  · intro core bytes hblank
    obtain h | ⟨-, h⟩ | ⟨i, j, m, hi, h⟩ := decode_es_cases core bytes
    · exact h
    · cases h.symm.trans hblank
    · cases h.symm.trans hblank

end Sys2Proof.Opcodes
end

section
/-!
PROOFS. The blank cells of the opcode maps (30_encoding.md R110-R113), and the words written out from the spec.
-/

namespace Sys2Proof.Opcodes

open Sys2Proof.Machine Sys2Proof.Forms

section
variable {core : CpuCore} {op : List Byte} {f : Form} {e : Option Form}

/-- The cell reads at most two operand bytes, whatever they are. -/
def Short (f : Form) : Prop := ∃ k ≤ 2, operandCount f = some k

theorem Cells.decode_of_short (h : Cells core op f e) (hs : Short f) (c d : Byte) (rest : List Byte) :
    ∃ i n, decode core (op ++ c :: d :: rest) = .ok (i, n) := by
  obtain ⟨k, hk, hf⟩ := hs
  rw [h.decode_eq (h.ne_of_operandCount hf)]
  obtain ⟨hlt, -⟩ | ⟨-, i, hi⟩ := readForm_cases core op.length hf (c :: d :: rest)
  · simp only [List.length_cons] at hlt
    omega
  · exact ⟨i, _, hi⟩

theorem getD_short {row : List Form} (h : ∀ f ∈ row, Short f) {col : Nat} (hcol : col < row.length) :
    Short (row.getD col .unassigned) := by
  rw [List.getD_eq_getElem _ _ hcol]
  exact h _ (List.getElem_mem hcol)

/-! ## The 3rd map -/

theorem map3Low_short (bit : Fin 8) : ∀ f ∈ map3Low bit, Short f := by
  simp only [map3Low, List.forall_mem_cons, List.not_mem_nil, false_implies, implies_true, and_true]
  split_ands <;> exact ⟨_, by decide, rfl⟩

theorem bit_of_highCode_zero : ∀ bit : Fin 8, highCode 0 bit ∉ blank71 → bit = 0 ∨ bit = 4 := by decide

theorem bit_of_highCode_eight : ∀ bit : Fin 8, highCode 8 bit ∉ blank71 → bit = 0 := by decide

/-- Columns 0 and 8 of the high rows hold CY's own instructions at bits 0 and 4, the other columns no blank cell. -/
theorem map3High_short {col : Fin 16} {bit : Fin 8} (h : highCode col bit ∉ blank71) :
    Short ((map3High bit).getD col .unassigned) := by
  fin_cases col <;> try exact ⟨_, by decide, rfl⟩
  · obtain rfl | rfl := bit_of_highCode_zero bit h <;> exact ⟨0, by decide, rfl⟩
  · obtain rfl := bit_of_highCode_eight bit h
    exact ⟨0, by decide, rfl⟩

/-! ## The 4th map -/

theorem map4Low_short (bit : Fin 8) : ∀ f ∈ map4Low bit, Short f := by
  simp only [map4Low, List.forall_mem_cons, List.not_mem_nil, false_implies, implies_true, and_true]
  split_ands <;> exact ⟨_, by decide, rfl⟩

theorem map4High_short (bit : Fin 8) : ∀ f ∈ map4High bit, Short f := by
  simp only [map4High, List.forall_mem_cons, List.not_mem_nil, false_implies, implies_true, and_true]
  split_ands <;> exact ⟨_, by decide, rfl⟩

theorem blank31_countCode (col cnt : Fin 16) :
    blank31 (countCode col cnt)
      ↔ cnt.val = 0 ∧ 6 ≤ col.val ∨ col.val = 6 ∨ 8 ≤ cnt.val ∧ 7 ≤ col.val ∧ col.val ≤ 0xB := by
  have hdiv : (countCode col cnt).toNat / 16 = cnt := by rw [countCode_toNat]; omega
  rw [blank31, countCode_mod, hdiv]

theorem byteCount_iff (cnt : Fin 16) : byteCount cnt = true ↔ 1 ≤ cnt.val ∧ cnt.val ≤ 7 := by
  revert cnt; decide

theorem wordCount_iff (cnt : Fin 16) : wordCount cnt = true ↔ 1 ≤ cnt.val := by
  revert cnt; decide

theorem map4ByteShifts_short (cnt : Fin 16) : ∀ f ∈ map4ByteShifts cnt, Short f := by
  simp only [map4ByteShifts, List.forall_mem_cons, List.not_mem_nil, false_implies, implies_true, and_true]
  split_ands <;> exact ⟨_, by decide, rfl⟩

theorem map4WordShifts_short (cnt : Fin 16) : ∀ f ∈ map4WordShifts cnt, Short f := by
  simp only [map4WordShifts, List.forall_mem_cons, List.not_mem_nil, false_implies, implies_true, and_true]
  split_ands <;> exact ⟨_, by decide, rfl⟩

theorem shiftCell_blank {col cnt : Fin 16} (h : blank31 (countCode col cnt)) : shiftCell col cnt = .unassigned := by
  rw [blank31_countCode] at h
  unfold shiftCell
  split_ifs with h6 h12 hb hw
  · rfl
  · have := (byteCount_iff cnt).1 hb
    omega
  · rfl
  · have := (wordCount_iff cnt).1 hw
    omega
  · rfl

theorem shiftCell_short {col cnt : Fin 16} (hcol : 6 ≤ col.val) (h : ¬ blank31 (countCode col cnt)) :
    Short (shiftCell col cnt) := by
  rw [blank31_countCode] at h
  unfold shiftCell
  rw [if_neg (by omega)]
  split_ifs with h12 hb hw
  · exact getD_short (map4ByteShifts_short cnt) (by simp [map4ByteShifts]; omega)
  · exact absurd ((byteCount_iff cnt).2 (by omega)) hb
  · exact getD_short (map4WordShifts_short cnt) (by simp [map4WordShifts]; omega)
  · exact absurd ((wordCount_iff cnt).2 (by omega)) hw

/-! ## Blank cells and cells that are not blank -/

theorem decode_third_of_not_blank {b : Byte} (h : b ∉ blank71) (c d : Byte) (rest : List Byte) :
    ∃ i n, decode core (0x71 :: b :: c :: d :: rest) = .ok (i, n) := by
  obtain ⟨col, bit, rfl | rfl⟩ := exists_lowCode_or_highCode b
  · exact (Cells.thirdLow col bit).decode_of_short (getD_short (map3Low_short bit) col.isLt) c d rest
  · exact (Cells.thirdHigh col bit).decode_of_short (map3High_short h) c d rest

theorem decode_fourth_of_blank {b : Byte} (h : blank31 b) (rest : List Byte) :
    decode core (0x31 :: b :: rest) = .error .unassigned := by
  obtain ⟨col, cnt, rfl⟩ := exists_countCode b
  have hcol : 6 ≤ col.val := by
    have := (blank31_countCode col cnt).1 h
    omega
  have hcell := (Cells.shift (core := core) hcol cnt).decode_eq nofun rest
  rw [shiftCell_blank h] at hcell
  exact hcell

theorem decode_fourth_of_not_blank {b : Byte} (h : ¬ blank31 b) (c d : Byte) (rest : List Byte) :
    ∃ i n, decode core (0x31 :: b :: c :: d :: rest) = .ok (i, n) := by
  by_cases hcol : b.toNat % 16 < 6
  · obtain ⟨col, bit, rfl | rfl⟩ := exists_lowCode_or_highCode b
    · rw [lowCode_mod] at hcol
      exact (Cells.fourthLow hcol bit).decode_of_short (getD_short (map4Low_short bit) hcol) c d rest
    · rw [highCode_mod] at hcol
      exact (Cells.fourthHigh hcol bit).decode_of_short (getD_short (map4High_short bit) hcol) c d rest
  · obtain ⟨col, cnt, rfl⟩ := exists_countCode b
    rw [countCode_mod, not_lt] at hcol
    exact (Cells.shift hcol cnt).decode_of_short (shiftCell_short hcol h) c d rest

theorem decode_second_of_blank : ∀ b ∈ blank61, ∀ core rest, decode core (0x61 :: b :: rest) = .error .unassigned := by
  simp only [blank61, List.forall_mem_cons, List.not_mem_nil, false_implies, implies_true, and_true]
  split_ands <;> exact fun _ _ => rfl

theorem decode_third_of_blank : ∀ b ∈ blank71, ∀ core rest, decode core (0x71 :: b :: rest) = .error .unassigned := by
  simp only [blank71, List.forall_mem_cons, List.not_mem_nil, false_implies, implies_true, and_true]
  split_ands <;> exact fun _ _ => rfl

theorem decode_sel_s1 (n : BankNo) (rest : List Byte) :
    decode .s1 (0x61 :: (0xCF + 0x10 * n.code) :: rest) = .error .unassigned := by
  cases n <;> rfl

end

/-- Settles O4, map by map: the listed cells are blank, and every other cell of the 3rd and 4th map reads at most two
operand bytes. -/
theorem blankCellsAreUnassigned : Obligations.BlankCellsAreUnassigned :=
  ⟨fun _ _ => ⟨rfl, rfl⟩, fun core b rest hb => decode_second_of_blank b hb core rest, decode_sel_s1,
    fun core b c d rest hb => decode_third_of_blank b hb core (c :: d :: rest),
    fun _ _ c d rest hb => decode_third_of_not_blank hb c d rest,
    fun _ _ c d rest hb => decode_fourth_of_blank hb (c :: d :: rest),
    fun _ _ c d rest hb => decode_fourth_of_not_blank hb c d rest⟩

/-- Settles O3, by decoding each word. -/
theorem writtenWordsDecode : Obligations.WrittenWordsDecode :=
  ⟨rfl, rfl, rfl, rfl, rfl, rfl, rfl, rfl, rfl, rfl, rfl⟩

end Sys2Proof.Opcodes
end
